-- ==== Sys2Proof/Word.lean ====
section
/-! DEFINITION. The word types of the MSP framing engine: bytes of the wire and the buffers, and the 32-bit words of the
host window (00_scope.md R9, R13). Every value is unsigned. -/

namespace Sys2Proof

/-- One byte: a wire byte, a buffer byte, an integrity value. -/
abbrev Byte := BitVec 8

/-- A host data word or a window offset (host data and offset width 32 bits, R9). -/
abbrev Word := BitVec 32

end Sys2Proof
end

