-- ==== Sys2Proof/Machine/Event.lean ====
section
/-! DEFINITION. The events of the engine's agents (00_scope.md R11). One event is one atomic step. -/

namespace Sys2Proof.Machine

/-- The size n of a host access, in bytes: 1, 2 or 4 (20_memory.md R52). -/
inductive AccessSize
  | byte
  | half
  | word
  deriving DecidableEq, Repr, Inhabited

/-- n, in bytes. -/
def AccessSize.bytes (n : AccessSize) : Nat :=
  match n with
  | .byte => 1
  | .half => 2
  | .word => 4

/-- The events of R11. -/
inductive Event
  /-- The host reads n bytes at a window offset (R52). -/
  | hostRead (off : Word) (n : AccessSize)
  /-- The host writes the low n bytes of v at a window offset (R52). -/
  | hostWrite (off : Word) (n : AccessSize) (v : Word)
  /-- The RX line offers a byte to the RX FIFO (R62). -/
  | rxByte (b : Byte)
  /-- The engine consumes one FIFO byte in a receive state (R145). -/
  | rxStep
  /-- The TX sink takes the whole offered frame (R64, R128). -/
  | txAccept
  /-- The TX sink refuses the offered frame (R64, R129). -/
  | txFail
  /-- The deadline source ticks (R166). -/
  | tick
  /-- Reset (R230). -/
  | reset
  deriving DecidableEq, Repr, Inhabited

end Sys2Proof.Machine
end

