-- ==== Sys2Proof/Config.lean ====
section
/-! DEFINITION. What the spec leaves open: the parameters of 00_scope.md R10, the free values of
93_implementation_defined.md I-1 and I-2, and the environment's choice of the next event (I-12, I-13). Each constant has
no body, so no proof can see its value and every theorem holds for all of them. -/

namespace Sys2Proof

/-- `RXFIFO_DEPTH` less one. The depth is an open integer of at least 1 (R10, I-14); DEDUCED: it is below 2^32, since the
32-bit `RXFIFO_LEVEL` counts up to it (R43). -/
opaque Config.rxFifoDepthLessOne : Fin 4294967295

/-- `RXFIFO_DEPTH`, the number of received bytes the RX FIFO holds (R10): at least 1 by construction. -/
def Config.rxFifoDepth : Nat := Config.rxFifoDepthLessOne.val + 1

/-- `BASE`, the platform address of window offset 0 (R10). The engine sees offsets only, so no rule reads it. -/
opaque Config.base : Nat

/-- `TICK_PERIOD`, the real time between two `tick` events (R10). No rule depends on it. -/
opaque Config.tickPeriod : Nat

/-- `QUIET_PERIOD`, the boot wait the host applies before negotiation (R10). No rule depends on it. -/
opaque Config.quietPeriod : Nat

/-- The free value of a buffer byte that nothing has written since a reset: `bufDraw d a` is the byte drawn for window
offset `a` at draw number `d`, one draw per byte at each reset (93 I-1, I-2). -/
opaque Config.bufDraw : Nat → Nat → Byte

/-- The environment's free choice of the next event once the schedule is empty: any event may come next (R11, I-12, I-13);
the argument counts the choices made. -/
opaque Config.environment : Nat → Machine.Event

end Sys2Proof
end

