-- ==== Sys2Proof/Syntax.lean ====
section
/-! DEFINITION. The instructions of spec/opcode_table.json, one constructor per row: eleven command words of format CMD32,
which the host writes to `CMD` (30_encoding.md R80-R85), and five three-byte wire headers (30_encoding.md R89). -/

namespace Sys2Proof

/-- An instruction. The frame operands of a command (code, length, payload, deadline) come from registers, not from the
command word (30_encoding.md R86), so a command carries only `DATA8` or `FORCE_V1`. -/
inductive Instr
  /-- NOP (R105). -/
  | nop
  /-- CRC_CLR (R106). -/
  | crcClr
  /-- CRC_BYTE with its `DATA8` (R107). -/
  | crcByte (data8 : Byte)
  /-- XOR_CLR (R108). -/
  | xorClr
  /-- XOR_BYTE with its `DATA8` (R109). -/
  | xorByte (data8 : Byte)
  /-- SEND with its `FORCE_V1` (R130). -/
  | send (forceV1 : Bool)
  /-- RECEIVE (R140). -/
  | receive
  /-- TRANSACT with its `FORCE_V1` (R180). -/
  | transact (forceV1 : Bool)
  /-- NEGOTIATE (R184). -/
  | negotiate
  /-- ABORT (R188). -/
  | abort
  /-- FLUSH_RX (R190). -/
  | flushRx
  /-- The wire header `$M<`, a V1 request (R120, R163). -/
  | hdrV1Request
  /-- The wire header `$X<`, a V2 request (R121, R163). -/
  | hdrV2Request
  /-- The wire header `$M>`, a V1 success response (R149). -/
  | hdrV1Response
  /-- The wire header `$M!`, a V1 error response (R149). -/
  | hdrV1Error
  /-- The wire header `$X>`, a V2 success response (R150). -/
  | hdrV2Response
  deriving DecidableEq, Repr

end Sys2Proof
end

