-- ==== Sys2Proof/WellFormed.lean ====
section
/-! DEFINITION. What makes a command word well formed (30_encoding.md R81-R83, R85). An `Instr` carries its operands in
types of exactly the field's width, so every `Instr` is well formed; the checks that can fail are those on the raw fields
of a command word, one Bool per check. -/

namespace Sys2Proof

/-- The raw fields of a CMD32 word (R81). -/
structure Cmd32 where
  op : Byte
  data8 : Byte
  forceV1 : Bool
  reserved : BitVec 15
  deriving DecidableEq, Repr

/-- `OP` is in the opcode map: 0x00..0x04 or 0x10..0x15 (R82, R84). -/
def Cmd32.opKnown (c : Cmd32) : Bool :=
  decide (c.op.toNat ≤ 0x04) || (decide (0x10 ≤ c.op.toNat) && decide (c.op.toNat ≤ 0x15))

/-- `DATA8` is 0 unless the opcode is CRC_BYTE or XOR_BYTE (R81). -/
def Cmd32.data8Ok (c : Cmd32) : Bool :=
  c.op == 0x02#8 || c.op == 0x04#8 || c.data8 == 0#8

/-- `FORCE_V1` is 0 unless the opcode is SEND or TRANSACT (R81). -/
def Cmd32.forceV1Ok (c : Cmd32) : Bool :=
  c.op == 0x10#8 || c.op == 0x12#8 || !c.forceV1

/-- The reserved bits [31:17] are 0 (R81). -/
def Cmd32.reservedOk (c : Cmd32) : Bool :=
  c.reserved == 0#15

/-- A command word the engine does not refuse for its form. -/
def Cmd32.wellFormed (c : Cmd32) : Bool :=
  c.opKnown && c.data8Ok && c.forceV1Ok && c.reservedOk

/-- Each operand of an instruction fits its field (R86): `DATA8` has 8 bits, `FORCE_V1` one. -/
def Instr.WellFormed (i : Instr) : Prop :=
  match i with
  | .crcByte d | .xorByte d => d.toNat < 2 ^ 8
  | .send f | .transact f => f.toNat < 2 ^ 1
  | .nop | .crcClr | .xorClr | .receive | .negotiate | .abort | .flushRx
  | .hdrV1Request | .hdrV2Request | .hdrV1Response | .hdrV1Error | .hdrV2Response => True

end Sys2Proof
end

