-- ==== Sys2Proof/Decode.lean ====
section
/-! DEFINITION. The decoder, total on any bytes and refusing by name, and after it the encoder. Two ports carry
instructions: the `CMD` register carries command words of four bytes, little-endian (20_memory.md R54, 30_encoding.md
R80-R85); the serial line carries three-byte wire headers, byte 0 first (30_encoding.md R89, 20_memory.md R65). -/

namespace Sys2Proof

/-- Why bytes are no instruction. -/
inductive DecodeError
  /-- `OP` is not in the opcode map (R84, R85). -/
  | illegalOp
  /-- An unused or reserved field is not 0 (R83, R84). -/
  | reservedField
  /-- The three bytes are none of the five headers (R89). -/
  | unknownHeader
  /-- Not four bytes on the command port, not three on the wire. -/
  | badLength
  deriving DecidableEq, Repr

/-- Where an instruction's bytes travel. -/
inductive Port
  | command
  | wire
  deriving DecidableEq, Repr

/-! ## Fields of a command word (R81) -/

/-- `OP` = w[7:0]. -/
def cmdOp (w : Word) : Byte := w.extractLsb' 0 8

/-- `DATA8` = w[15:8]. -/
def cmdData8 (w : Word) : Byte := w.extractLsb' 8 8

/-- `FORCE_V1` = w[16]. -/
def cmdForceV1 (w : Word) : Bool := w.getLsbD 16

/-- The raw fields of a word. -/
def cmdFields (w : Word) : Cmd32 :=
  { op := cmdOp w, data8 := cmdData8 w, forceV1 := cmdForceV1 w, reserved := w.extractLsb' 17 15 }

/-! ## Decoding a command word -/

/-- One row of the match and mask table (R83): a word `w` selects the row's instruction when `w &&& mask = pattern`. -/
structure CmdRow where
  pattern : Word
  mask : Word
  build : Byte → Bool → Instr

/-- The rows of R83, in its order; `build` is given `DATA8` and `FORCE_V1`. -/
def cmdTable : List CmdRow :=
  [ ⟨0x00000000#32, 0xFFFFFFFF#32, fun _ _ => .nop⟩,
    ⟨0x00000001#32, 0xFFFFFFFF#32, fun _ _ => .crcClr⟩,
    ⟨0x00000002#32, 0xFFFF00FF#32, fun d _ => .crcByte d⟩,
    ⟨0x00000003#32, 0xFFFFFFFF#32, fun _ _ => .xorClr⟩,
    ⟨0x00000004#32, 0xFFFF00FF#32, fun d _ => .xorByte d⟩,
    ⟨0x00000010#32, 0xFFFEFFFF#32, fun _ f => .send f⟩,
    ⟨0x00000011#32, 0xFFFFFFFF#32, fun _ _ => .receive⟩,
    ⟨0x00000012#32, 0xFFFEFFFF#32, fun _ f => .transact f⟩,
    ⟨0x00000013#32, 0xFFFFFFFF#32, fun _ _ => .negotiate⟩,
    ⟨0x00000014#32, 0xFFFFFFFF#32, fun _ _ => .abort⟩,
    ⟨0x00000015#32, 0xFFFFFFFF#32, fun _ _ => .flushRx⟩ ]

/-- Decode of a command word (R84): first the opcode, then the mask. The BUSY check reads the state and stands in the
meanings. -/
def decodeCmd (w : Word) : Except DecodeError Instr :=
  match cmdTable.find? (fun r => cmdOp r.pattern == cmdOp w) with
  | none => .error .illegalOp
  | some r =>
    if w &&& r.mask = r.pattern then .ok (r.build (cmdData8 w) (cmdForceV1 w)) else .error .reservedField

/-! ## Decoding a wire header -/

/-- One row of the header table (R89). -/
structure HeaderRow where
  b0 : Byte
  b1 : Byte
  b2 : Byte
  instr : Instr

/-- The five headers of R89: `$M<`, `$X<`, `$M>`, `$M!`, `$X>`. -/
def headerTable : List HeaderRow :=
  [ ⟨0x24#8, 0x4D#8, 0x3C#8, .hdrV1Request⟩,
    ⟨0x24#8, 0x58#8, 0x3C#8, .hdrV2Request⟩,
    ⟨0x24#8, 0x4D#8, 0x3E#8, .hdrV1Response⟩,
    ⟨0x24#8, 0x4D#8, 0x21#8, .hdrV1Error⟩,
    ⟨0x24#8, 0x58#8, 0x3E#8, .hdrV2Response⟩ ]

/-- Decode of three wire bytes as a header (R89); every other triple is unrecognised. -/
def decodeHeader (b0 b1 b2 : Byte) : Except DecodeError Instr :=
  match headerTable.find? (fun r => r.b0 == b0 && r.b1 == b1 && r.b2 == b2) with
  | none => .error .unknownHeader
  | some r => .ok r.instr

/-- A 32-bit word from its bytes, the first at the lowest offset (little-endian, R54). -/
def wordOfBytes (b0 b1 b2 b3 : Byte) : Word := b3 ++ b2 ++ b1 ++ b0

/-- The decoder: total on any bytes of either port. -/
def decode (p : Port) (bytes : List Byte) : Except DecodeError Instr :=
  match p, bytes with
  | .command, [b0, b1, b2, b3] => decodeCmd (wordOfBytes b0 b1 b2 b3)
  | .wire, [b0, b1, b2] => decodeHeader b0 b1 b2
  | _, _ => .error .badLength

/-! ## The table's numbering -/

/-- Byte `k` of a number, byte 0 the least significant. -/
def byteOf (w k : Nat) : Byte := BitVec.ofNat 8 (w / 256 ^ k)

/-- The instruction the decoder reads from a row's bits as spec/opcode_table.json numbers them. A 32-bit row is a command
word, little-endian on the host window. A 24-bit row is a wire header, which the table writes as ONE 24-bit number with
the first wire byte on top (`$M<` is 0x244D3C), so its bytes are w[23:16], w[15:8], w[7:0] in wire order. -/
def decodeTableWord (nbits w : Nat) : Option Instr :=
  if nbits = 24 then (decode .wire [byteOf w 2, byteOf w 1, byteOf w 0]).toOption
  else if nbits ≤ 32 then (decode .command [byteOf w 0, byteOf w 1, byteOf w 2, byteOf w 3]).toOption
  else none

/-! ## The encoder -/

/-- The port an instruction travels on. -/
def Instr.port (i : Instr) : Port :=
  match i with
  | .nop | .crcClr | .crcByte _ | .xorClr | .xorByte _ | .send _ | .receive | .transact _ | .negotiate | .abort
  | .flushRx => .command
  | .hdrV1Request | .hdrV2Request | .hdrV1Response | .hdrV1Error | .hdrV2Response => .wire

/-- `FORCE_V1` as byte 2 of a command word: bit 16 of the word. -/
def forceByte (f : Bool) : Byte := if f then 0x01#8 else 0x00#8

/-- The bytes of an instruction in port order, from the opcode map (R82), the word format (R81) and the headers (R89). -/
def encode (i : Instr) : List Byte :=
  match i with
  | .nop => [0x00#8, 0#8, 0#8, 0#8]
  | .crcClr => [0x01#8, 0#8, 0#8, 0#8]
  | .crcByte d => [0x02#8, d, 0#8, 0#8]
  | .xorClr => [0x03#8, 0#8, 0#8, 0#8]
  | .xorByte d => [0x04#8, d, 0#8, 0#8]
  | .send f => [0x10#8, 0#8, forceByte f, 0#8]
  | .receive => [0x11#8, 0#8, 0#8, 0#8]
  | .transact f => [0x12#8, 0#8, forceByte f, 0#8]
  | .negotiate => [0x13#8, 0#8, 0#8, 0#8]
  | .abort => [0x14#8, 0#8, 0#8, 0#8]
  | .flushRx => [0x15#8, 0#8, 0#8, 0#8]
  | .hdrV1Request => [0x24#8, 0x4D#8, 0x3C#8]
  | .hdrV2Request => [0x24#8, 0x58#8, 0x3C#8]
  | .hdrV1Response => [0x24#8, 0x4D#8, 0x3E#8]
  | .hdrV1Error => [0x24#8, 0x4D#8, 0x21#8]
  | .hdrV2Response => [0x24#8, 0x58#8, 0x3E#8]

/-- The command word of an instruction, built from its fields (R81, R92); a header has none. -/
def encodeCmd? (i : Instr) : Option Word :=
  match encode i with
  | [b0, b1, b2, b3] => some (wordOfBytes b0 b1 b2 b3)
  | _ => none

end Sys2Proof
end

