-- ==== Sys2Proof/Machine/State.lean ====
section
/-! DEFINITION. The state of the MSP framing engine as plain data (10_state.md), and the state right after reset
(70_reset_and_hazards.md R230). -/

namespace Sys2Proof.Machine

/-- The control state of R44. Encodings 18..31 are never taken and have no constructor (93 I-10). -/
inductive Fsm
  | idle
  | sending
  | scan
  | gotDollar
  | gotM
  | gotX
  | hdrSkip
  | v1Size
  | v1Code
  | v1Payload
  | v1Check
  | v2Flag
  | v2CodeLo
  | v2CodeHi
  | v2SizeLo
  | v2SizeHi
  | v2Payload
  | v2Crc
  deriving DecidableEq, Repr

/-- The long operation in progress (R45). -/
inductive LongOp
  | none
  | send
  | receive
  | transact
  | negotiate
  deriving DecidableEq, Repr

/-- `STATUS.RESULT` (R27). Values 0xD..0xF are never written and have no constructor (93 I-10). -/
inductive Result
  | none
  | sentV1
  | sentV2
  | rxOkV1
  | rxOkV2
  | rejected
  | timeout
  | checksumMismatch
  | crcMismatch
  | payloadTooLarge
  | codeTooLarge
  | transportError
  | aborted
  deriving DecidableEq, Repr

/-- `STATUS.ERR_CAUSE` (R32). Values 4..7 are never written and have no constructor (93 I-10). -/
inductive ErrCause
  | none
  | illegalOp
  | reservedField
  | busy
  deriving DecidableEq, Repr

/-- The family of a frame (R15, R124). -/
inductive Family
  | v1
  | v2
  deriving DecidableEq, Repr

/-- The bus errors of 60_exceptions.md R206. -/
inductive BusError
  | decErr
  | align
  | size
  | readOnly
  | locked
  | notValid
  deriving DecidableEq, Repr

/-- The engine's answer to a host access (R206, 00_scope.md R12): an output of the engine. -/
inductive BusAnswer
  /-- OKAY with the data read. -/
  | readOkay (data : Word)
  /-- OKAY to a write. -/
  | writeOkay
  /-- A bus error. -/
  | error (cause : BusError)
  deriving DecidableEq, Repr

/-- TX_BUF and RX_BUF as one list of (window offset, byte) pairs (20_memory.md R51). In canonical form the offsets rise
strictly. An offset that is not listed has not been written since the last reset and reads as its draw. -/
abbrev Memory := List Host.Cell

/-- The state. -/
structure State where
  /-- The control state, read as `STATUS.STATE` and `STATUS.BUSY` (R44, R26). -/
  fsm : Fsm
  /-- The long operation in progress (R45). -/
  op : LongOp
  /-- `STATUS.RESULT` (R27). -/
  result : Result
  /-- `STATUS.V2_SUPPORTED` (R28). -/
  v2Supported : Bool
  /-- `STATUS.RX_VALID` (R29). -/
  rxValid : Bool
  /-- `STATUS.TX_V2` (R30). -/
  txV2 : Bool
  /-- `STATUS.DONE` (R31). -/
  done : Bool
  /-- `STATUS.CMD_ERR` (R31). -/
  cmdErr : Bool
  /-- `STATUS.RX_OVERRUN` (R31). -/
  rxOverrun : Bool
  /-- `STATUS.ERR_CAUSE` (R32). -/
  errCause : ErrCause
  /-- `IRQ_EN.DONE_IE` (R33). -/
  doneIe : Bool
  /-- `IRQ_EN.CMD_ERR_IE` (R33). -/
  cmdErrIe : Bool
  /-- `IRQ_EN.OVR_IE` (R33). -/
  ovrIe : Bool
  /-- `TX_CODE.CODE` (R34). -/
  txCode : BitVec 16
  /-- `TX_SIZE.SIZE` (R35). -/
  txSize : Word
  /-- `RX_CODE.CODE` (R36). -/
  rxCode : BitVec 16
  /-- `RX_SIZE.SIZE` (R37). -/
  rxSize : BitVec 16
  /-- `RX_INFO.FLAG` (R38). -/
  rxFlag : Byte
  /-- `RX_INFO.IS_V2` (R38). -/
  rxIsV2 : Bool
  /-- `CRC_ACC.ACC` (R39). -/
  crcAcc : Byte
  /-- `XOR_ACC.ACC` (R40). -/
  xorAcc : Byte
  /-- `TIMEOUT.TICKS` (R41). -/
  timeout : Word
  /-- `TIMER.REMAIN` (R42). -/
  timer : Word
  /-- The decoder's running integrity value (R46). -/
  acc : Byte
  /-- The payload length read from the frame (R46). -/
  rxLen : BitVec 16
  /-- The code read from the frame (R46). -/
  rxCodeSh : BitVec 16
  /-- The V2 flag byte read from the frame (R46). -/
  rxFlagSh : Byte
  /-- The number of payload bytes stored so far (R46). -/
  rxIdx : BitVec 17
  /-- The frame offered to the TX sink (R47). -/
  txFrame : List Byte
  /-- TX_BUF and RX_BUF (R48). -/
  mem : Memory
  /-- The RX FIFO, oldest byte first (R48, R62). -/
  rxfifo : List Byte
  /-- Output: the frames the TX sink accepted, in order (R12, R48). -/
  wireTx : List (List Byte)
  /-- Output: the answer to the latest host access, none before the first (R12, R206). -/
  bus : Option BusAnswer
  /-- The model's own: the number of the current draw of the buffers' free bytes (93 I-1). -/
  draw : Nat
  /-- The model's own: the events still to come, the next one first (R11). -/
  sched : List Event
  /-- The model's own: how many events the environment has chosen freely (R11). -/
  envIdx : Nat
  deriving DecidableEq, Repr

/-- Why the machine stops. -/
inductive Fault
  /-- Raised by the decoder's payload states (R153, R160) when `rx_idx` lies outside RX_BUF (65,535 bytes): no such buffer
  byte exists. No run reaches it (R164, `State.Inv`). Safe: the machine stops. -/
  | rxIndexOutOfRange
  deriving DecidableEq, Repr

/-- Why an instruction has no meaning. -/
inductive Refusal
  /-- Raised by an arm of `exec` whose instruction has no meaning yet; no arm is left that raises it. Safe: the machine
  stops. -/
  | notModelled (mnemonic : String)
  deriving DecidableEq, Repr

/-- The outcome of a step, an instruction or an event. -/
abbrev Out := Host.Outcome State Fault Refusal

/-- The machine right after reset, at the start of a run (R230): every register 0 but `ID`, control IDLE, FIFO empty, no
byte of the buffers written, nothing sent yet. The last four fields are the model's own or outputs: no answer yet, draw
number 0, nothing scheduled, no free event taken. -/
def State.reset : State where
  fsm := .idle
  op := .none
  result := .none
  v2Supported := false
  rxValid := false
  txV2 := false
  done := false
  cmdErr := false
  rxOverrun := false
  errCause := .none
  doneIe := false
  cmdErrIe := false
  ovrIe := false
  txCode := 0
  txSize := 0
  rxCode := 0
  rxSize := 0
  rxFlag := 0
  rxIsV2 := false
  crcAcc := 0
  xorAcc := 0
  timeout := 0
  timer := 0
  acc := 0
  rxLen := 0
  rxCodeSh := 0
  rxFlagSh := 0
  rxIdx := 0
  txFrame := []
  mem := []
  rxfifo := []
  wireTx := []
  bus := none
  draw := 0
  sched := []
  envIdx := 0

end Sys2Proof.Machine
end

