-- ==== Sys2Proof/Machine/Ops.lean ====
section
/-! DEFINITION. The named operations over the state: the buffers' memory, the integrity functions, the encodings of the
status fields, the shared steps that begin and end a long operation or a receive phase, and the refusal of a command.
The engine takes no trap (60_exceptions.md R210): `cmdError` and `finish` are how it reports. -/

namespace Sys2Proof.Machine

/-! ## Control states -/

/-- `RXSTATES`: the receive states, the values 2..17 of R44. -/
def Fsm.isRx (f : Fsm) : Bool :=
  match f with
  | .idle | .sending => false
  | .scan | .gotDollar | .gotM | .gotX | .hdrSkip | .v1Size | .v1Code | .v1Payload | .v1Check | .v2Flag | .v2CodeLo
  | .v2CodeHi | .v2SizeLo | .v2SizeHi | .v2Payload | .v2Crc => true

/-- The 5-bit encoding of `fsm`, read as `STATUS.STATE` (R26, R44). -/
def Fsm.code (f : Fsm) : BitVec 5 :=
  match f with
  | .idle => 0#5
  | .sending => 1#5
  | .scan => 2#5
  | .gotDollar => 3#5
  | .gotM => 4#5
  | .gotX => 5#5
  | .hdrSkip => 6#5
  | .v1Size => 7#5
  | .v1Code => 8#5
  | .v1Payload => 9#5
  | .v1Check => 10#5
  | .v2Flag => 11#5
  | .v2CodeLo => 12#5
  | .v2CodeHi => 13#5
  | .v2SizeLo => 14#5
  | .v2SizeHi => 15#5
  | .v2Payload => 16#5
  | .v2Crc => 17#5

/-- The 4-bit encoding of `STATUS.RESULT` (R27). -/
def Result.code (r : Result) : BitVec 4 :=
  match r with
  | .none => 0x0#4
  | .sentV1 => 0x1#4
  | .sentV2 => 0x2#4
  | .rxOkV1 => 0x3#4
  | .rxOkV2 => 0x4#4
  | .rejected => 0x5#4
  | .timeout => 0x6#4
  | .checksumMismatch => 0x7#4
  | .crcMismatch => 0x8#4
  | .payloadTooLarge => 0x9#4
  | .codeTooLarge => 0xA#4
  | .transportError => 0xB#4
  | .aborted => 0xC#4

/-- The 3-bit encoding of `STATUS.ERR_CAUSE` (R32). -/
def ErrCause.code (c : ErrCause) : BitVec 3 :=
  match c with
  | .none => 0#3
  | .illegalOp => 1#3
  | .reservedField => 2#3
  | .busy => 3#3

/-- The code of a bus error (R206). -/
def BusError.code (e : BusError) : Nat :=
  match e with
  | .decErr => 1
  | .align => 2
  | .size => 3
  | .readOnly => 4
  | .locked => 5
  | .notValid => 6

/-- The response code of an answer (R206); 0 is OKAY. -/
def BusAnswer.code (a : BusAnswer) : Nat :=
  match a with
  | .readOkay _ => 0
  | .writeOkay => 0
  | .error e => e.code

/-- The data of the answer to a read; a bus error returns data 0 (R59, R206). -/
def BusAnswer.data? (a : BusAnswer) : Option Word :=
  match a with
  | .readOkay d => some d
  | .writeOkay => none
  | .error _ => some 0#32

/-! ## Memory: TX_BUF and RX_BUF by window offset -/

/-- The number of bytes of each buffer (R9, R48). -/
def bufLen : Nat := 65535

/-- The window offset of TX_BUF[0] (R51). -/
def txBase : Nat := 0x10000

/-- The window offset of RX_BUF[0] (R51). -/
def rxBase : Nat := 0x20000

/-- A window offset that is a byte of TX_BUF or of RX_BUF (R51). -/
abbrev IsBufAddr (a : Nat) : Prop := (txBase ≤ a ∧ a < txBase + bufLen) ∨ (rxBase ≤ a ∧ a < rxBase + bufLen)

/-- The byte written at an offset since the last reset, none where nothing was. -/
def Memory.get? (m : Memory) (a : Nat) : Option Byte :=
  match m with
  | [] => none
  | c :: rest => if c.1 = a then some c.2 else Memory.get? rest a

/-- Stores a byte at an offset, keeping the offsets rising: an entry for the offset is replaced, else one is inserted. -/
def Memory.put (m : Memory) (a : Nat) (b : Byte) : Memory :=
  match m with
  | [] => [(a, b)]
  | c :: rest => if a < c.1 then (a, b) :: c :: rest else if a = c.1 then (a, b) :: rest else c :: Memory.put rest a b

/-- Canonical form: the offsets rise strictly and each is a byte of a buffer. (An unlisted offset reads as a free value,
to which no listed byte is equal by construction.) -/
abbrev Memory.wf (m : Memory) : Prop :=
  m.Pairwise (fun c d => c.1 < d.1) ∧ ∀ c ∈ m, IsBufAddr c.1

/-- Reads one buffer byte by its window offset: the byte written since the last reset, else the byte's free value of the
current draw (93 I-1, I-2). -/
def readByte (s : State) (a : Nat) : Byte := (s.mem.get? a).getD (Config.bufDraw s.draw a)

/-- Writes one buffer byte by its window offset. -/
def writeByte (s : State) (a : Nat) (b : Byte) : State := { s with mem := s.mem.put a b }

/-- `MemRead` (R55): the n bytes from window offset `a`, assembled little-endian and zero-extended to 32 bits. -/
def memRead (s : State) (a : Nat) (n : Nat) : Word :=
  match n with
  | 0 => 0#32
  | n + 1 => memRead s a n + ((readByte s (a + n)).zeroExtend 32 <<< (8 * n))

/-- `MemWrite` (R55): the n low bytes of `v`, little-endian, from window offset `a`. -/
def memWrite (s : State) (a : Nat) (v : Word) (n : Nat) : State :=
  match n with
  | 0 => s
  | n + 1 => writeByte (memWrite s a v n) (a + n) (v.extractLsb' (8 * n) 8)

/-- `BUF[o..o+n)` from a window offset `a`, as a byte sequence. -/
def bufBytes (s : State) (a n : Nat) : List Byte := (List.range n).map (fun i => readByte s (a + i))

/-! ## The integrity functions (40_integrity.md) -/

/-- One of the eight bit steps of `crc8_step` (R100): the top bit is tested before the shift. -/
def crcBit (c : Byte) : Byte := if c.getLsbD 7 then (c <<< 1) ^^^ 0xD5#8 else c <<< 1

/-- k bit steps. -/
def crcBits (k : Nat) (c : Byte) : Byte :=
  match k with
  | 0 => c
  | k + 1 => crcBits k (crcBit c)

/-- `crc8_step` (R100). -/
def crc8Step (c b : Byte) : Byte := crcBits 8 (c ^^^ b)

/-- `crc8` (R101): initial value 0x00, no final exclusive-or. -/
def crc8 (bytes : List Byte) : Byte := bytes.foldl crc8Step 0x00#8

/-- `fold_xor` (R102). -/
def foldXor (bytes : List Byte) : Byte := bytes.foldl (fun x b => x ^^^ b) 0x00#8

/-! ## Long operations -/

/-- `op_begin` (R126). -/
def opBegin (s : State) : State := { s with done := false, result := .none }

/-- `finish(result)` (R170), with NEGOTIATE's effect on the version flag (R186). -/
def finish (r : Result) (s : State) : State :=
  { s with
    v2Supported := s.v2Supported || (decide (s.op = .negotiate) && decide (r = .rxOkV2))
    result := r
    done := true
    fsm := .idle
    op := .none
    txFrame := [] }

/-- `rx_begin` (R141). -/
def rxBegin (s : State) : State :=
  { s with
    timer := s.timeout
    rxValid := false
    rxCode := 0
    rxSize := 0
    rxFlag := 0
    rxIsV2 := false
    acc := 0
    rxLen := 0
    rxCodeSh := 0
    rxFlagSh := 0
    rxIdx := 0
    fsm := .scan }

/-- `commit(family)` (R171): publishes a valid frame. -/
def commit (fam : Family) (s : State) : State :=
  { s with
    rxCode := s.rxCodeSh
    rxSize := s.rxLen
    rxFlag := if fam = .v2 then s.rxFlagSh else 0
    rxIsV2 := decide (fam = .v2)
    rxValid := true }

/-- The latch of `start_send` (R127): the frame is offered to the TX sink. -/
def latchFrame (kind : LongOp) (fam : Family) (frame : List Byte) (s : State) : State :=
  { s with txFrame := frame, txV2 := decide (fam = .v2), op := kind, fsm := .sending }

/-! ## Command errors -/

/-- `raise CmdError(cause)` (R201): two fields of `STATUS` and nothing else. -/
def cmdError (cause : ErrCause) (s : State) : State := { s with cmdErr := true, errCause := cause }

/-- The cause of a command word the decoder refuses (R84). The last two cases belong to the wire and to a wrong length: a
4-byte `CMD` write never meets them. -/
def refusalCause (e : DecodeError) : ErrCause :=
  match e with
  | .illegalOp => .illegalOp
  | .reservedField => .reservedField
  | .unknownHeader => .none
  | .badLength => .none

/-- The BUSY check of R84 and R203: a command that needs `fsm` = IDLE runs there and is refused elsewhere. -/
def whenIdle (run : State → State) (s : State) : State :=
  if s.fsm = .idle then run s else cmdError .busy s

end Sys2Proof.Machine
end

