-- ==== Sys2Proof/Machine/Header.lean ====
section
/-! DEFINITION. The meanings of the wire headers (30_encoding.md R89; 42_receive.md R149, R150, R163). A header takes
effect at its third byte, in the event that consumes it, after its first two bytes have brought the scan to GOT_M or
GOT_X. In any other control state no header of that family is at its third byte, and the meaning does nothing. -/

namespace Sys2Proof.Machine

/-- Runs a header's effect where the scan stands before the header's third byte. -/
def atHeader (f : Fsm) (run : State → State) (s : State) : State := if s.fsm = f then run s else s

/-- `$M<` (R163): sent by the V1 encoder (R120), not recognised on receive; the scan resyncs. -/
def execHdrV1Request (s : State) : Out := .next (atHeader .gotM (fun s => { s with fsm := .scan }) s)

/-- `$X<` (R163): sent by the V2 encoder (R121), not recognised on receive; the scan resyncs. -/
def execHdrV2Request (s : State) : Out := .next (atHeader .gotX (fun s => { s with fsm := .scan }) s)

/-- `$M>` (R149): V1 success response; the V1 decode path starts. -/
def execHdrV1Response (s : State) : Out := .next (atHeader .gotM (fun s => { s with acc := 0, fsm := .v1Size }) s)

/-- `$M!` (R149): V1 error response; the phase ends with REJECTED. -/
def execHdrV1Error (s : State) : Out := .next (atHeader .gotM (finish .rejected) s)

/-- `$X>` (R150): V2 success response; the V2 decode path starts. -/
def execHdrV2Response (s : State) : Out := .next (atHeader .gotX (fun s => { s with acc := 0, fsm := .v2Flag }) s)

end Sys2Proof.Machine
end

