-- ==== Sys2Proof/Machine/Integrity.lean ====
section
/-! DEFINITION. The meanings of the integrity commands (40_integrity.md R105-R109): accepted in every control state, never
refused with BUSY. -/

namespace Sys2Proof.Machine

/-- NOP (R105): no effect. -/
def execNop (s : State) : Out := .next s

/-- CRC_CLR (R106). -/
def execCrcClr (s : State) : Out := .next { s with crcAcc := 0x00#8 }

/-- CRC_BYTE (R107). -/
def execCrcByte (data8 : Byte) (s : State) : Out := .next { s with crcAcc := crc8Step s.crcAcc data8 }

/-- XOR_CLR (R108). -/
def execXorClr (s : State) : Out := .next { s with xorAcc := 0x00#8 }

/-- XOR_BYTE (R109). -/
def execXorByte (data8 : Byte) (s : State) : Out := .next { s with xorAcc := s.xorAcc ^^^ data8 }

end Sys2Proof.Machine
end

