-- ==== Sys2Proof/Machine/Operands.lean ====
section
/-! DEFINITION. The operand forms of the sending commands (30_encoding.md R86): the code, the length and the payload come
from registers as they stand at the command write; the family choice; the two frame encoders (41_transmit.md). -/

namespace Sys2Proof.Machine

/-- The payload `TX_BUF[0..n)`. -/
def txPayload (s : State) (n : Nat) : List Byte := bufBytes s txBase n

/-- `use_v2(force_v1)` (R124). -/
def useV2 (s : State) (forceV1 : Bool) : Bool :=
  s.v2Supported && !forceV1 && decide (s.txSize.toNat ≤ 65535)

/-- The family of a SEND or TRANSACT frame (R124). -/
def chooseFamily (s : State) (forceV1 : Bool) : Family := if useV2 s forceV1 then .v2 else .v1

/-- Low byte of a 16-bit value (R65). -/
def lo8 (v : BitVec 16) : Byte := v.extractLsb' 0 8

/-- High byte of a 16-bit value (R65). -/
def hi8 (v : BitVec 16) : Byte := v.extractLsb' 8 8

/-- A 16-bit value from its two bytes. -/
def word16 (lo hi : Byte) : BitVec 16 := hi ++ lo

/-- `enc_v1(k, p)` (R120): header, size, code, payload, checksum (R87). -/
def encV1 (k : Byte) (p : List Byte) : List Byte :=
  let n := BitVec.ofNat 8 p.length
  encode .hdrV1Request ++ [n, k] ++ p ++ [n ^^^ k ^^^ foldXor p]

/-- The bytes of a V2 frame under its CRC (R121): flag, code, size, payload. -/
def v2Body (flag : Byte) (k : BitVec 16) (p : List Byte) : List Byte :=
  let n := BitVec.ofNat 16 p.length
  [flag, lo8 k, hi8 k, lo8 n, hi8 n] ++ p

/-- `enc_v2(k, p)` (R121): header, body with flag 0x00, CRC (R88). -/
def encV2 (k : BitVec 16) (p : List Byte) : List Byte :=
  encode .hdrV2Request ++ v2Body 0x00#8 k p ++ [crc8 (v2Body 0x00#8 k p)]

/-- `build(family)` (R125): the frame, or the result that refuses it; the size check comes first. -/
def build (fam : Family) (s : State) : Except Result (List Byte) :=
  match fam with
  | .v2 =>
    if 65535 < s.txSize.toNat then .error .payloadTooLarge
    else .ok (encV2 s.txCode (txPayload s s.txSize.toNat))
  | .v1 =>
    if 255 < s.txSize.toNat then .error .payloadTooLarge
    else if 255 < s.txCode.toNat then .error .codeTooLarge
    else .ok (encV1 (lo8 s.txCode) (txPayload s s.txSize.toNat))

/-- `start_send(kind, family)` (R127): a refused frame finishes at once, a built one is latched and offered. -/
def startSend (kind : LongOp) (fam : Family) (s : State) : State :=
  match build fam s with
  | .error r => finish r s
  | .ok frame => latchFrame kind fam frame s

end Sys2Proof.Machine
end

