-- ==== Sys2Proof/Machine/Session.lean ====
section
/-! DEFINITION. The meanings of the long operations and of the session helpers: SEND (41_transmit.md R130), RECEIVE
(42_receive.md R140), TRANSACT, NEGOTIATE, ABORT and FLUSH_RX (43_session.md R180-R190). A command that needs IDLE and
does not find it is refused with BUSY (60_exceptions.md R203). -/

namespace Sys2Proof.Machine

/-- SEND (R130): `op_begin`, then `start_send` with the chosen family. -/
def execSend (forceV1 : Bool) (s : State) : Out :=
  .next (whenIdle (fun s => startSend .send (chooseFamily s forceV1) (opBegin s)) s)

/-- RECEIVE (R140): `op_begin`, then `rx_begin`. -/
def execReceive (s : State) : Out :=
  .next (whenIdle (fun s => rxBegin { opBegin s with op := .receive }) s)

/-- TRANSACT (R180): `op_begin`, then `start_send` with the chosen family. -/
def execTransact (forceV1 : Bool) (s : State) : Out :=
  .next (whenIdle (fun s => startSend .transact (chooseFamily s forceV1) (opBegin s)) s)

/-- NEGOTIATE (R184, R185): `op_begin`, then `start_send` with a V2 probe. -/
def execNegotiate (s : State) : Out :=
  .next (whenIdle (fun s => startSend .negotiate .v2 (opBegin s)) s)

/-- ABORT (R188): ends a receive phase, is refused in SENDING, does nothing in IDLE. -/
def execAbort (s : State) : Out :=
  .next (if s.fsm.isRx then finish .aborted s else if s.fsm = .sending then cmdError .busy s else s)

/-- FLUSH_RX (R190): empties the RX FIFO. -/
def execFlushRx (s : State) : Out :=
  .next (whenIdle (fun s => { s with rxfifo := [] }) s)

end Sys2Proof.Machine
end

