-- ==== Sys2Proof/Machine/Dispatch.lean ====
section
/-! DEFINITION. The meaning of every instruction: one arm per constructor, each one direct call. -/

namespace Sys2Proof.Machine

def exec (i : Instr) (s : State) : Host.Outcome State Fault Refusal :=
  match i with
  | .nop => Sys2Proof.Machine.execNop s
  | .crcClr => Sys2Proof.Machine.execCrcClr s
  | .crcByte data8 => Sys2Proof.Machine.execCrcByte data8 s
  | .xorClr => Sys2Proof.Machine.execXorClr s
  | .xorByte data8 => Sys2Proof.Machine.execXorByte data8 s
  | .send forceV1 => Sys2Proof.Machine.execSend forceV1 s
  | .receive => Sys2Proof.Machine.execReceive s
  | .transact forceV1 => Sys2Proof.Machine.execTransact forceV1 s
  | .negotiate => Sys2Proof.Machine.execNegotiate s
  | .abort => Sys2Proof.Machine.execAbort s
  | .flushRx => Sys2Proof.Machine.execFlushRx s
  | .hdrV1Request => Sys2Proof.Machine.execHdrV1Request s
  | .hdrV2Request => Sys2Proof.Machine.execHdrV2Request s
  | .hdrV1Response => Sys2Proof.Machine.execHdrV1Response s
  | .hdrV1Error => Sys2Proof.Machine.execHdrV1Error s
  | .hdrV2Response => Sys2Proof.Machine.execHdrV2Response s

end Sys2Proof.Machine
end

