-- ==== Sys2Proof/Machine/Decoder.lean ====
section
/-! DEFINITION. The byte-level receive scan and decoder (42_receive.md R145-R161): one definition per receive state, each
the rule of that state applied to one consumed byte. A byte that completes a header is decoded and its header run by
`exec`. -/

namespace Sys2Proof.Machine

/-- Stores one payload byte at `RX_BUF[rx_idx]` and counts it (R153, R160). -/
def storePayload (b : Byte) (s : State) : State :=
  { writeByte s (rxBase + s.rxIdx.toNat) b with rxIdx := s.rxIdx + 1 }

/-- State SCAN (R146). -/
def rxScan (b : Byte) (s : State) : State := { s with fsm := if b = 0x24#8 then .gotDollar else .scan }

/-- State GOT_DOLLAR (R147). -/
def rxGotDollar (b : Byte) (s : State) : State :=
  { s with fsm := if b = 0x4D#8 then .gotM else if b = 0x58#8 then .gotX else .hdrSkip }

/-- State HDR_SKIP (R148). -/
def rxHdrSkip (s : State) : State := { s with fsm := .scan }

/-- The third byte of a header: a known header runs its meaning, an unknown one resyncs (R149, R150, R163). -/
def rxHeader (b1 b2 : Byte) (s : State) : Out :=
  match decode .wire [0x24#8, b1, b2] with
  | .ok i => exec i s
  | .error _ => .next { s with fsm := .scan }

/-- State GOT_M (R149). -/
def rxGotM (b : Byte) (s : State) : Out := rxHeader 0x4D#8 b s

/-- State GOT_X (R150). -/
def rxGotX (b : Byte) (s : State) : Out := rxHeader 0x58#8 b s

/-- State V1_SIZE (R151). -/
def rxV1Size (b : Byte) (s : State) : State :=
  { s with rxLen := b.zeroExtend 16, acc := s.acc ^^^ b, fsm := .v1Code }

/-- State V1_CODE (R152). -/
def rxV1Code (b : Byte) (s : State) : State :=
  { s with
    rxCodeSh := b.zeroExtend 16
    acc := s.acc ^^^ b
    rxIdx := 0
    fsm := if s.rxLen = 0 then .v1Check else .v1Payload }

/-- State V1_PAYLOAD (R153). -/
def rxV1Payload (b : Byte) (s : State) : Out :=
  if s.rxIdx.toNat < bufLen then
    .next { storePayload b s with
      acc := s.acc ^^^ b
      fsm := if (s.rxIdx + 1).toNat = s.rxLen.toNat then .v1Check else .v1Payload }
  else .fault .rxIndexOutOfRange

/-- State V1_CHECK (R154). -/
def rxV1Check (b : Byte) (s : State) : State :=
  if b = s.acc then finish .rxOkV1 (commit .v1 s) else finish .checksumMismatch s

/-- State V2_FLAG (R155). -/
def rxV2Flag (b : Byte) (s : State) : State :=
  { s with rxFlagSh := b, acc := crc8Step s.acc b, fsm := .v2CodeLo }

/-- State V2_CODE_LO (R156). -/
def rxV2CodeLo (b : Byte) (s : State) : State :=
  { s with rxCodeSh := word16 b (hi8 s.rxCodeSh), acc := crc8Step s.acc b, fsm := .v2CodeHi }

/-- State V2_CODE_HI (R157). -/
def rxV2CodeHi (b : Byte) (s : State) : State :=
  { s with rxCodeSh := word16 (lo8 s.rxCodeSh) b, acc := crc8Step s.acc b, fsm := .v2SizeLo }

/-- State V2_SIZE_LO (R158). -/
def rxV2SizeLo (b : Byte) (s : State) : State :=
  { s with rxLen := word16 b (hi8 s.rxLen), acc := crc8Step s.acc b, fsm := .v2SizeHi }

/-- State V2_SIZE_HI (R159). -/
def rxV2SizeHi (b : Byte) (s : State) : State :=
  { s with
    rxLen := word16 (lo8 s.rxLen) b
    acc := crc8Step s.acc b
    rxIdx := 0
    fsm := if word16 (lo8 s.rxLen) b = 0 then .v2Crc else .v2Payload }

/-- State V2_PAYLOAD (R160). -/
def rxV2Payload (b : Byte) (s : State) : Out :=
  if s.rxIdx.toNat < bufLen then
    .next { storePayload b s with
      acc := crc8Step s.acc b
      fsm := if (s.rxIdx + 1).toNat = s.rxLen.toNat then .v2Crc else .v2Payload }
  else .fault .rxIndexOutOfRange

/-- State V2_CRC (R161). -/
def rxV2Crc (b : Byte) (s : State) : State :=
  if b = s.acc then finish .rxOkV2 (commit .v2 s) else finish .crcMismatch s

/-- The rule of the current control state applied to a consumed byte (R145-R161); IDLE and SENDING consume none. -/
def rxApply (b : Byte) (s : State) : Out :=
  match s.fsm with
  | .idle => .next s
  | .sending => .next s
  | .scan => .next (rxScan b s)
  | .gotDollar => .next (rxGotDollar b s)
  | .gotM => rxGotM b s
  | .gotX => rxGotX b s
  | .hdrSkip => .next (rxHdrSkip s)
  | .v1Size => .next (rxV1Size b s)
  | .v1Code => .next (rxV1Code b s)
  | .v1Payload => rxV1Payload b s
  | .v1Check => .next (rxV1Check b s)
  | .v2Flag => .next (rxV2Flag b s)
  | .v2CodeLo => .next (rxV2CodeLo b s)
  | .v2CodeHi => .next (rxV2CodeHi b s)
  | .v2SizeLo => .next (rxV2SizeLo b s)
  | .v2SizeHi => .next (rxV2SizeHi b s)
  | .v2Payload => rxV2Payload b s
  | .v2Crc => .next (rxV2Crc b s)

end Sys2Proof.Machine
end

