-- ==== Sys2Proof/Machine/Flags.lean ====
section
/-! DEFINITION. The `STATUS` word, its write-one-to-clear bits, `IRQ_EN` and the interrupt level (10_state.md R25-R33,
60_exceptions.md R214). -/

namespace Sys2Proof.Machine

/-- One bit. -/
def bit (b : Bool) : BitVec 1 := BitVec.ofBool b

/-- `STATUS.BUSY` (R26). -/
def busy (s : State) : Bool := !decide (s.fsm = .idle)

/-- The `STATUS` word, field by field from bit 31 down, reserved fields 0 (R25). -/
def statusWord (s : State) : Word :=
  0#5 ++ s.errCause.code ++ 0#5 ++ bit s.rxOverrun ++ bit s.cmdErr ++ bit s.done ++ bit s.txV2 ++ bit s.rxValid
    ++ bit s.v2Supported ++ bit (busy s) ++ s.result.code ++ 0#3 ++ s.fsm.code

/-- A host write to `STATUS` (R31): bits 16, 17 and 18 of the value clear their flags; everything else is unchanged. -/
def writeStatus (v : Word) (s : State) : State :=
  { s with
    done := s.done && !v.getLsbD 16
    cmdErr := s.cmdErr && !v.getLsbD 17
    rxOverrun := s.rxOverrun && !v.getLsbD 18 }

/-- The `IRQ_EN` word (R33). -/
def irqEnWord (s : State) : Word := 0#13 ++ bit s.ovrIe ++ bit s.cmdErrIe ++ bit s.doneIe ++ 0#16

/-- A host write to `IRQ_EN` (R33). -/
def writeIrqEn (v : Word) (s : State) : State :=
  { s with doneIe := v.getLsbD 16, cmdErrIe := v.getLsbD 17, ovrIe := v.getLsbD 18 }

/-- The `irq` output, a level computed from the state (R214). -/
def irq (s : State) : Bool :=
  (s.done && s.doneIe) || (s.cmdErr && s.cmdErrIe) || (s.rxOverrun && s.ovrIe)

/-- The `RX_INFO` word (R38). -/
def rxInfoWord (s : State) : Word := 0#23 ++ bit s.rxIsV2 ++ s.rxFlag

end Sys2Proof.Machine
end

