-- ==== Sys2Proof/Machine/Window.lean ====
section
/-! DEFINITION. The host window (20_memory.md): the register map, the order of the checks, and what a read returns and a
write stores. The effect of a write to `CMD` stands in Machine/Engine.lean, after `exec`. -/

namespace Sys2Proof.Machine

/-- The registers of 10_state.md R22. -/
inductive Reg
  | id
  | cmd
  | status
  | irqEn
  | txCode
  | txSize
  | rxCode
  | rxSize
  | rxInfo
  | crcAcc
  | xorAcc
  | timeout
  | timer
  | rxfifoLevel
  deriving DecidableEq, Repr

/-- The register at an offset of the REG region (R22). -/
def regAt (off : Nat) : Option Reg :=
  match off with
  | 0x000 => some .id
  | 0x004 => some .cmd
  | 0x008 => some .status
  | 0x00C => some .irqEn
  | 0x010 => some .txCode
  | 0x014 => some .txSize
  | 0x018 => some .rxCode
  | 0x01C => some .rxSize
  | 0x020 => some .rxInfo
  | 0x024 => some .crcAcc
  | 0x028 => some .xorAcc
  | 0x02C => some .timeout
  | 0x030 => some .timer
  | 0x034 => some .rxfifoLevel
  | _ => none

/-- The read-only registers (R53). -/
def Reg.readOnly (r : Reg) : Bool :=
  match r with
  | .id | .rxCode | .rxSize | .rxInfo | .timer | .rxfifoLevel => true
  | .cmd | .status | .irqEn | .txCode | .txSize | .crcAcc | .xorAcc | .timeout => false

/-- The registers locked while a frame is offered (R53, R57). -/
def Reg.lockedInSending (r : Reg) : Bool :=
  match r with
  | .txCode | .txSize => true
  | .id | .cmd | .status | .irqEn | .rxCode | .rxSize | .rxInfo | .crcAcc | .xorAcc | .timeout | .timer
  | .rxfifoLevel => false

/-- The constant of `ID` (R23). -/
def idWord : Word := 0x4D535001#32

/-- What a 4-byte read of a register returns (R23-R43); `CMD` reads 0. -/
def readReg (r : Reg) (s : State) : Word :=
  match r with
  | .id => idWord
  | .cmd => 0#32
  | .status => statusWord s
  | .irqEn => irqEnWord s
  | .txCode => s.txCode.zeroExtend 32
  | .txSize => s.txSize
  | .rxCode => s.rxCode.zeroExtend 32
  | .rxSize => s.rxSize.zeroExtend 32
  | .rxInfo => rxInfoWord s
  | .crcAcc => s.crcAcc.zeroExtend 32
  | .xorAcc => s.xorAcc.zeroExtend 32
  | .timeout => s.timeout
  | .timer => s.timer
  | .rxfifoLevel => BitVec.ofNat 32 s.rxfifo.length

/-- What a 4-byte write stores in a register other than `CMD`; a read-only register is never written (R53). -/
def writeReg (r : Reg) (v : Word) (s : State) : State :=
  match r with
  | .status => writeStatus v s
  | .irqEn => writeIrqEn v s
  | .txCode => { s with txCode := v.extractLsb' 0 16 }
  | .txSize => { s with txSize := v }
  | .crcAcc => { s with crcAcc := v.extractLsb' 0 8 }
  | .xorAcc => { s with xorAcc := v.extractLsb' 0 8 }
  | .timeout => { s with timeout := v }
  | .id | .cmd | .rxCode | .rxSize | .rxInfo | .timer | .rxfifoLevel => s

/-- The regions of the window (R51, R52). -/
inductive Region
  | reg
  | txb
  | rxb
  deriving DecidableEq, Repr

/-- The region of an offset (R52). -/
def regionAt (off : Nat) : Option Region :=
  if off < 0x100 then some .reg
  else if 0x10000 ≤ off ∧ off < 0x20000 then some .txb
  else if 0x20000 ≤ off ∧ off < 0x30000 then some .rxb
  else none

/-- The first checks of every access (R52): region, then alignment. -/
def locate (off n : Nat) : Except BusError Region :=
  match regionAt off with
  | none => .error .decErr
  | some r => if off % n ≠ 0 then .error .align else .ok r

/-- The register a REG-region access reaches (R53): size, then offset. -/
def locateReg (off n : Nat) : Except BusError Reg :=
  if n ≠ 4 then .error .size
  else
    match regAt off with
    | none => .error .decErr
    | some r => .ok r

/-- The answer to a host read of n bytes at an offset (R52, R53, R56, R58, R206). -/
def readWindow (s : State) (off n : Nat) : Except BusError Word :=
  match locate off n with
  | .error e => .error e
  | .ok .reg =>
    match locateReg off n with
    | .error e => .error e
    | .ok r => .ok (readReg r s)
  | .ok .txb =>
    if bufLen < off - txBase + n then .error .decErr else .ok (memRead s off n)
  | .ok .rxb =>
    if bufLen < off - rxBase + n then .error .decErr
    else if s.rxValid = false ∨ s.rxSize.toNat < off - rxBase + n then .error .notValid
    else .ok (memRead s off n)

/-- What an allowed write reaches: a register, or TX_BUF at a window offset. -/
inductive Target
  | reg (r : Reg)
  | txb (off : Nat)
  deriving DecidableEq, Repr

/-- The check of a host write of n bytes at an offset (R52, R53, R56, R57, R58, R206). -/
def checkWrite (s : State) (off n : Nat) : Except BusError Target :=
  match locate off n with
  | .error e => .error e
  | .ok .reg =>
    match locateReg off n with
    | .error e => .error e
    | .ok r =>
      if r.readOnly then .error .readOnly
      else if r.lockedInSending ∧ s.fsm = .sending then .error .locked
      else .ok (.reg r)
  | .ok .txb =>
    if bufLen < off - txBase + n then .error .decErr
    else if s.fsm = .sending then .error .locked
    else .ok (.txb off)
  | .ok .rxb =>
    if bufLen < off - rxBase + n then .error .decErr else .error .readOnly

end Sys2Proof.Machine
end

