-- ==== Sys2Proof/Machine/Engine.lean ====
section
/-! DEFINITION. The events (00_scope.md R11): when each is enabled, what it does, and which one comes next. -/

namespace Sys2Proof.Machine

/-! ## Host accesses -/

/-- A 4-byte write of `CMD` (R80, R84): the word is decoded and its instruction performed, or the command refused. -/
def issueCommand (w : Word) (s : State) : Out :=
  match decodeCmd w with
  | .ok i => exec i s
  | .error e => .next (cmdError (refusalCause e) s)

/-- Performs a write that passed its checks. -/
def writeTarget (t : Target) (n : Nat) (v : Word) (s : State) : Out :=
  match t with
  | .reg r => if r = .cmd then issueCommand v s else .next (writeReg r v s)
  | .txb off => .next (memWrite s off v n)

/-- The answer to a host read. -/
def readAnswer (s : State) (off n : Nat) : BusAnswer :=
  match readWindow s off n with
  | .ok d => .readOkay d
  | .error e => .error e

/-- `HostRead(off, n)` (R52, R59, R61): only the answer is recorded. -/
def hostRead (off : Word) (n : AccessSize) (s : State) : Out :=
  .next { s with bus := some (readAnswer s off.toNat n.bytes) }

/-- `HostWrite(off, n, v)` (R52, R59): a bus error is answered and changes nothing else; else OKAY is answered and the
write performed. -/
def hostWrite (off : Word) (n : AccessSize) (v : Word) (s : State) : Out :=
  match checkWrite s off.toNat n.bytes with
  | .error e => .next { s with bus := some (.error e) }
  | .ok t => writeTarget t n.bytes v { s with bus := some .writeOkay }

/-! ## The other events -/

/-- `RxByte(b)` (R62): kept while the FIFO has room, else dropped and RX_OVERRUN set. -/
def rxByteEvent (b : Byte) (s : State) : State :=
  if s.rxfifo.length < Config.rxFifoDepth then { s with rxfifo := s.rxfifo ++ [b] } else { s with rxOverrun := true }

/-- `RxStep` (R145): the oldest FIFO byte is consumed by the rule of the current state. -/
def rxStepEvent (s : State) : Out :=
  match s.rxfifo with
  | [] => .next s
  | b :: rest => rxApply b { s with rxfifo := rest }

/-- `TxAccept` (R64, R128): the whole frame reaches the peer; a SEND finishes, a TRANSACT or NEGOTIATE starts its receive
phase. -/
def txAcceptEvent (s : State) : State :=
  let s' := { s with wireTx := s.wireTx ++ [s.txFrame] }
  match s.op with
  | .send => finish (if s.txV2 then .sentV2 else .sentV1) s'
  | .transact => rxBegin s'
  | .negotiate => rxBegin s'
  | .none => s'
  | .receive => s'

/-- `TxFail` (R64, R129): no byte reaches the peer. -/
def txFailEvent (s : State) : State := finish .transportError s

/-- `Tick` (R166). -/
def tickEvent (s : State) : State :=
  if s.fsm.isRx then
    if s.timer.toNat ≤ 1 then finish .timeout { s with timer := 0 } else { s with timer := s.timer - 1 }
  else s

/-- `Reset` (R230): every piece of state at its reset value and a new draw of the buffers' bytes. The outputs of the past
(`wire_tx`, the last bus answer) and the schedule stay. -/
def resetEvent (s : State) : State :=
  { State.reset with
    wireTx := s.wireTx
    bus := s.bus
    draw := s.draw + 1
    sched := s.sched
    envIdx := s.envIdx }

/-! ## Enabling, performing, choosing -/

/-- When an event is enabled (R11, R62, R64, R145, R166, R230). -/
def enabled (e : Event) (s : State) : Bool :=
  match e with
  | .hostRead _ _ => true
  | .hostWrite _ _ _ => true
  | .rxByte _ => true
  | .rxStep => s.fsm.isRx && !s.rxfifo.isEmpty
  | .txAccept => decide (s.fsm = .sending)
  | .txFail => decide (s.fsm = .sending)
  | .tick => true
  | .reset => true

/-- What an enabled event does. -/
def perform (e : Event) (s : State) : Out :=
  match e with
  | .hostRead off n => hostRead off n s
  | .hostWrite off n v => hostWrite off n v s
  | .rxByte b => .next (rxByteEvent b s)
  | .rxStep => rxStepEvent s
  | .txAccept => .next (txAcceptEvent s)
  | .txFail => .next (txFailEvent s)
  | .tick => .next (tickEvent s)
  | .reset => .next (resetEvent s)

/-- One event: an event that is not enabled does not happen, and the engine stays as it is. -/
def runEvent (e : Event) (s : State) : Out :=
  if enabled e s then perform e s else .next s

/-- The next event and the state it meets: the first event of the schedule, else the environment's free choice. -/
def nextEvent (s : State) : Event × State :=
  match s.sched with
  | e :: rest => (e, { s with sched := rest })
  | [] => (Config.environment s.envIdx, { s with envIdx := s.envIdx + 1 })

/-! ## Placing an instruction -/

/-- The window offset of `CMD` (R24). -/
def cmdOffset : Word := 0x004#32

/-- Schedules a command word next: the host's 4-byte write of `CMD`. -/
def placeCommand (w : Word) (s : State) : State :=
  { s with sched := .hostWrite cmdOffset .word w :: s.sched }

/-- Places a wire header: a receive phase whose scan has consumed the header's first two bytes, its third byte oldest in
the FIFO, and the RxStep that consumes it next. -/
def placeHeader (b0 b1 b2 : Byte) (s : State) : State :=
  let s1 := rxScan b0 { s with
    op := if s.fsm.isRx then s.op else .receive
    rxfifo := b2 :: s.rxfifo
    sched := .rxStep :: s.sched }
  if s1.fsm = .gotDollar then rxGotDollar b1 s1 else rxScan b1 s1

end Sys2Proof.Machine
end

