-- ==== Sys2Proof/Machine/Step.lean ====
section
/-! DEFINITION. One step: the next event, run (00_scope.md R11). -/

namespace Sys2Proof.Machine

/-- One step of the machine. -/
def step (s : State) : Host.Outcome State Fault Refusal := runEvent (nextEvent s).1 (nextEvent s).2

/-- `s` with the instruction of a table row placed so that the very next step runs it: a command word as the host's write
of `CMD`, a wire header (24 bits, first wire byte on top) as the RxStep that completes it. -/
def State.withFetchWord (s : State) (nbits w : Nat) : State :=
  if nbits = 24 then placeHeader (byteOf w 2) (byteOf w 1) (byteOf w 0) s
  else placeCommand (BitVec.ofNat 32 w) s

end Sys2Proof.Machine
end

