-- ==== Sys2Proof/Safety.lean ====
section
/-! DEFINITION. What counts as a safe state and a safe run: the invariants of the engine, the relation of one event, and
reachability. Claims are stated in these terms. -/

namespace Sys2Proof.Machine

/-! ## The transition relation (00_scope.md R11) -/

/-- `t` follows `s` by the enabled event `e`. -/
def Next (s : State) (e : Event) (t : State) : Prop := enabled e s = true ∧ perform e s = .next t

/-- The commands that need `fsm` = IDLE (R82, R203). -/
def needsIdle (i : Instr) : Bool :=
  match i with
  | .send _ | .receive | .transact _ | .negotiate | .flushRx => true
  | .nop | .crcClr | .crcByte _ | .xorClr | .xorByte _ | .abort | .hdrV1Request | .hdrV2Request | .hdrV1Response
  | .hdrV1Error | .hdrV2Response => false

/-- The state and the events of the next `k` steps: `s` with `es` scheduled first. -/
def State.facing (s : State) (es : List Event) : State := { s with sched := es ++ s.sched }

/-! ## The invariant -/

/-- The invariant of the engine's state. -/
structure State.Inv (s : State) : Prop where
  /-- `op` is NONE exactly when `fsm` is IDLE (R45). -/
  opIdle : s.op = .none ↔ s.fsm = .idle
  /-- Only a sending operation is in SENDING (R127). -/
  opSending : s.fsm = .sending → s.op ≠ .receive
  /-- Only a receiving operation is in a receive state (R140, R128). -/
  opReceiving : s.fsm.isRx = true → s.op ≠ .send
  /-- The buffers' memory keeps its canonical form and lies in the buffers (R51). -/
  memWf : s.mem.wf
  /-- The RX FIFO holds at most `RXFIFO_DEPTH` bytes (R48). -/
  fifoBound : s.rxfifo.length ≤ Config.rxFifoDepth
  /-- A payload byte to come is in range (R164). -/
  idxBound : s.fsm = .v1Payload ∨ s.fsm = .v2Payload → s.rxIdx.toNat < s.rxLen.toNat
  /-- In V1 decode the length is at most 255 (R164). -/
  v1Len : s.fsm = .v1Code ∨ s.fsm = .v1Payload ∨ s.fsm = .v1Check → s.rxLen.toNat ≤ 255
  /-- While an operation runs, DONE is 0 and RESULT is NONE (R126, R128). -/
  running : s.fsm ≠ .idle → s.done = false ∧ s.result = .none
  /-- No frame is held in IDLE (R170). -/
  frameIdle : s.fsm = .idle → s.txFrame = []
  /-- A frame has at most 65,544 bytes (R47). -/
  frameLen : s.txFrame.length ≤ 65544
  /-- Without a valid frame the RX registers read 0 (R141, R172). -/
  rxHidden : s.rxValid = false → s.rxCode = 0 ∧ s.rxSize = 0 ∧ s.rxFlag = 0 ∧ s.rxIsV2 = false
  /-- No frame is valid during a receive phase (R141). -/
  rxPhase : s.fsm.isRx = true → s.rxValid = false
  /-- The flag of a V1 frame reads 0 (R38). -/
  v1Flag : s.rxIsV2 = false → s.rxFlag = 0
  /-- A recorded refusal has a cause (R32, R201). -/
  errCause : s.cmdErr = true → s.errCause ≠ .none

/-! ## The frame on the TX port -/

/-- The family of the latched frame (R30). -/
def txFamily (s : State) : Family := if s.txV2 then .v2 else .v1

/-- While a frame is offered it is the frame the current TX registers and TX_BUF build (R57). -/
def State.FrameLatched (s : State) : Prop := s.fsm = .sending → build (txFamily s) s = .ok s.txFrame

/-- A request frame: its header is `$M<` or `$X<` (R123). -/
def IsRequest (f : List Byte) : Prop := f.take 3 = encode .hdrV1Request ∨ f.take 3 = encode .hdrV2Request

/-! ## The running integrity value -/

/-- `RX_BUF[0..n)`. -/
def rxPayload (s : State) (n : Nat) : List Byte := bufBytes s rxBase n

/-- The checksum a V1 frame of this length, code and payload needs (R87, R154). -/
def v1Sum (len code : BitVec 16) (p : List Byte) : Byte := lo8 len ^^^ lo8 code ^^^ foldXor p

/-- The CRC a V2 frame of this flag, code, length and payload needs (R88, R161). -/
def v2Sum (flag : Byte) (code len : BitVec 16) (p : List Byte) : Byte :=
  crc8 ([flag, lo8 code, hi8 code, lo8 len, hi8 len] ++ p)

/-- In every decode state `acc` is the integrity value of the bytes of the frame consumed so far (R154, R161). -/
def State.AccTracks (s : State) : Prop :=
  match s.fsm with
  | .v1Size => s.acc = 0
  | .v1Code => s.acc = lo8 s.rxLen
  | .v1Payload => s.acc = v1Sum s.rxLen s.rxCodeSh (rxPayload s s.rxIdx.toNat)
  | .v1Check => s.acc = v1Sum s.rxLen s.rxCodeSh (rxPayload s s.rxLen.toNat)
  | .v2Flag => s.acc = 0
  | .v2CodeLo => s.acc = crc8 [s.rxFlagSh]
  | .v2CodeHi => s.acc = crc8 [s.rxFlagSh, lo8 s.rxCodeSh]
  | .v2SizeLo => s.acc = crc8 [s.rxFlagSh, lo8 s.rxCodeSh, hi8 s.rxCodeSh]
  | .v2SizeHi => s.acc = crc8 [s.rxFlagSh, lo8 s.rxCodeSh, hi8 s.rxCodeSh, lo8 s.rxLen]
  | .v2Payload => s.acc = v2Sum s.rxFlagSh s.rxCodeSh s.rxLen (rxPayload s s.rxIdx.toNat)
  | .v2Crc => s.acc = v2Sum s.rxFlagSh s.rxCodeSh s.rxLen (rxPayload s s.rxLen.toNat)
  | .idle | .sending | .scan | .gotDollar | .gotM | .gotX | .hdrSkip => True

/-! ## Frames as a peer sends them -/

/-- A response frame: the request with byte 2 replaced by `>` (R173). -/
def asResponse (f : List Byte) : List Byte := f.set 2 0x3E#8

/-! ## What a host can tell apart -/

/-- How many bytes of RX_BUF a host sees or may come to see: the payload of a valid frame, or the payload bytes of the
frame being decoded (R58, R172). -/
def rxHeld (s : State) : Nat :=
  match s.fsm with
  | .v1Payload | .v2Payload => s.rxIdx.toNat
  | .v1Check | .v2Crc => s.rxLen.toNat
  | .idle | .sending | .scan | .gotDollar | .gotM | .gotX | .hdrSkip | .v1Size | .v1Code | .v2Flag | .v2CodeLo
  | .v2CodeHi | .v2SizeLo | .v2SizeHi => if s.rxValid then s.rxSize.toNat else 0

/-- Two states that differ at most in bytes of RX_BUF beyond those held: every other field, every byte of TX_BUF and every
held byte of RX_BUF is equal (R58, 93 I-3). -/
structure SameToHost (s t : State) : Prop where
  rest : t = { s with mem := t.mem }
  txBuf : ∀ o, o < bufLen → readByte t (txBase + o) = readByte s (txBase + o)
  rxBuf : ∀ o, o < rxHeld s → readByte t (rxBase + o) = readByte s (rxBase + o)

end Sys2Proof.Machine
end

