-- ==== Sys2Proof/Certificates/Slice0/Obligations.lean ====
section
/-! DEFINITION. The statements for the provers. Each is about the machine, never about a program; most are written over
every state by naming the fields they fix inside a record update (`{ s with fsm := .scan, … }` for every `s`), so they
have no hypothesis that could be empty. `s.facing es` is `s` with the events `es` scheduled before its own. -/

open Sys2Proof Sys2Proof.Machine

/-! ## Encoding -/

/-- Every instruction's encoding decodes to it on its own port, every operand at every value (R81-R84, R89, R92). -/
def Obligations.DecodeOfEncodeIsIdentity : Prop :=
  ∀ i : Instr, decode i.port (encode i) = .ok i

/-- Bytes that decode are the encoding of what they decode to: no two words share a meaning and no bit is dropped
(R83, R89). -/
def Obligations.DecodedBytesAreTheEncoding : Prop :=
  ∀ (p : Port) (bytes : List Byte) (i : Instr), decode p bytes = .ok i → i.port = p ∧ encode i = bytes

/-- The decoder of command words accepts exactly the words with a legal opcode and zero unused fields, and refuses an
unknown opcode before a nonzero field (R81, R83, R84, R85). -/
def Obligations.CommandWordDecodeClassified : Prop :=
  ∀ w : Word,
    ((∃ i, decodeCmd w = .ok i) ↔ (cmdFields w).wellFormed = true) ∧
    (decodeCmd w = .error .illegalOp ↔ (cmdFields w).opKnown = false) ∧
    (decodeCmd w = .error .reservedField ↔ (cmdFields w).opKnown = true ∧ (cmdFields w).wellFormed = false)

/-- Words and headers written out from the spec decode to what they stand for (R89, R92). -/
def Obligations.WrittenOutWordsDecode : Prop :=
  decodeCmd 0x00000000#32 = .ok .nop ∧
  decodeCmd 0x00000102#32 = .ok (.crcByte 0x01#8) ∧
  decodeCmd 0x00005A04#32 = .ok (.xorByte 0x5A#8) ∧
  decodeCmd 0x00010010#32 = .ok (.send true) ∧
  decodeCmd 0x00000012#32 = .ok (.transact false) ∧
  decodeCmd 0x00000015#32 = .ok .flushRx ∧
  decodeCmd 0x00010013#32 = .error .reservedField ∧
  decodeCmd 0x00010005#32 = .error .illegalOp ∧
  decode .wire [0x24#8, 0x4D#8, 0x3E#8] = .ok .hdrV1Response ∧
  decode .wire [0x24#8, 0x4D#8, 0x21#8] = .ok .hdrV1Error ∧
  decode .wire [0x24#8, 0x58#8, 0x21#8] = .error .unknownHeader

/-! ## The step -/

/-- A host write of a word to `CMD` runs the instruction it decodes to; around it the step takes the event off the
schedule and answers OKAY (R80, R84). -/
def Obligations.StepRunsDecodedCommand : Prop :=
  ∀ (s : State) (w : Word) (i : Instr), decodeCmd w = .ok i →
    step (s.facing [.hostWrite cmdOffset .word w]) = exec i { s with bus := some .writeOkay }

/-- The byte that completes a header runs the header it decodes to; around it the step takes the event off the schedule
and the byte off the RX FIFO (R149, R150). -/
def Obligations.StepRunsDecodedHeader : Prop :=
  ∀ (s : State) (b : Byte) (q : List Byte) (i : Instr),
    (decode .wire [0x24#8, 0x4D#8, b] = .ok i →
      step ({ s with fsm := .gotM, rxfifo := b :: q }.facing [.rxStep]) = exec i { s with fsm := .gotM, rxfifo := q }) ∧
    (decode .wire [0x24#8, 0x58#8, b] = .ok i →
      step ({ s with fsm := .gotX, rxfifo := b :: q }.facing [.rxStep]) = exec i { s with fsm := .gotX, rxfifo := q })

/-- Any enabled event may be the next one. Model's choices (entries 1 and 2): the schedule says which, an event that is
not enabled does nothing, and past the schedule the next event is free (R11). -/
def Obligations.AnyEventMayComeNext : Prop :=
  ∀ s : State,
    (∀ e : Event, enabled e s = true → step (s.facing [e]) = perform e s) ∧
    (∀ e : Event, enabled e s = false → step (s.facing [e]) = .next s) ∧
    step { s with sched := [] } = runEvent (Config.environment s.envIdx) { s with sched := [], envIdx := s.envIdx + 1 }

/-- A refused command sets `CMD_ERR` and `ERR_CAUSE` and nothing else, for the first cause that applies: an unknown
opcode, then a nonzero unused field, then BUSY (R201, R202). -/
def Obligations.RefusedCommandSetsTwoFields : Prop :=
  ∀ (s : State) (w : Word),
    let refused (c : ErrCause) : Prop :=
      step (s.facing [.hostWrite cmdOffset .word w])
        = .next { s with bus := some .writeOkay, cmdErr := true, errCause := c }
    ((cmdFields w).opKnown = false → refused .illegalOp) ∧
    ((cmdFields w).opKnown = true → (cmdFields w).wellFormed = false → refused .reservedField) ∧
    (∀ i, decodeCmd w = .ok i → needsIdle i = true → s.fsm ≠ .idle → refused .busy) ∧
    (decodeCmd w = .ok .abort → s.fsm = .sending → refused .busy)

/-! ## Integrity -/

/-- NOP, CRC_CLR, CRC_BYTE, XOR_CLR and XOR_BYTE run in every state and change at most their own accumulator
(R105-R109). -/
def Obligations.IntegrityCommandsComplete : Prop :=
  ∀ (s : State) (d : Byte),
    exec .nop s = .next s ∧
    exec .crcClr s = .next { s with crcAcc := 0x00#8 } ∧
    exec (.crcByte d) s = .next { s with crcAcc := crc8Step s.crcAcc d } ∧
    exec .xorClr s = .next { s with xorAcc := 0x00#8 } ∧
    exec (.xorByte d) s = .next { s with xorAcc := s.xorAcc ^^^ d }

/-- Flipping one bit of one byte flips that bit of `fold_xor` and no other; `crc8` is linear over exclusive-or, and
flipping one bit always changes it (R104). -/
def Obligations.SingleBitErrorsDetected : Prop :=
  (∀ (m : List Byte) (i : Nat) (j : Fin 8) (h : i < m.length),
    foldXor (m.set i (m[i] ^^^ (1#8 <<< j.val))) = foldXor m ^^^ (1#8 <<< j.val)) ∧
  (∀ m e : List Byte, m.length = e.length →
    crc8 (List.zipWith (fun a b => a ^^^ b) m e) = crc8 m ^^^ crc8 e) ∧
  (∀ (m : List Byte) (i : Nat) (j : Fin 8) (h : i < m.length),
    crc8 (m.set i (m[i] ^^^ (1#8 <<< j.val))) ≠ crc8 m)

/-- A run of CRC_BYTE words folds its bytes into `CRC_ACC`, and a run of XOR_BYTE words into `XOR_ACC`; from a cleared
accumulator that is `crc8` and `fold_xor` of the bytes, and nothing but the accumulator and the bus answer changes
(R101, R102, R107, R109). -/
def Obligations.IntegrityRunsFoldTheirBytes : Prop :=
  ∀ (s : State) (m : List Byte), m ≠ [] →
    (Host.Core.run core m.length
        (s.facing (m.map fun b => .hostWrite cmdOffset .word (wordOfBytes 0x02#8 b 0#8 0#8)))
      = .next { s with crcAcc := m.foldl crc8Step s.crcAcc, bus := some .writeOkay }) ∧
    (Host.Core.run core m.length
        (s.facing (m.map fun b => .hostWrite cmdOffset .word (wordOfBytes 0x04#8 b 0#8 0#8)))
      = .next { s with xorAcc := s.xorAcc ^^^ foldXor m, bus := some .writeOkay }) ∧
    (s.crcAcc = 0#8 → m.foldl crc8Step s.crcAcc = crc8 m)

/-! ## Frames and sending -/

/-- The two encoders, byte by byte (R120, R121), and when `build` calls them. -/
def Obligations.EncodersLayOutFrames : Prop :=
  (∀ (k : Byte) (p : List Byte),
    let n := BitVec.ofNat 8 p.length
    encV1 k p = [0x24#8, 0x4D#8, 0x3C#8, n, k] ++ p ++ [n ^^^ k ^^^ foldXor p]) ∧
  (∀ (k : BitVec 16) (p : List Byte),
    let n := BitVec.ofNat 16 p.length
    let body := [0x00#8, k.extractLsb' 0 8, k.extractLsb' 8 8, n.extractLsb' 0 8, n.extractLsb' 8 8] ++ p
    encV2 k p = [0x24#8, 0x58#8, 0x3C#8] ++ body ++ [crc8 body]) ∧
  (∀ (s : State) (f : List Byte), build .v1 s = .ok f → s.txSize.toNat ≤ 255 ∧ s.txCode.toNat ≤ 255) ∧
  (∀ (s : State) (f : List Byte), build .v2 s = .ok f → s.txSize.toNat ≤ 65535)

/-- Frame lengths and their bounds; the integrity byte is the last byte and covers every byte but itself and the three
header bytes; the V1 checksum is `fold_xor` of size, code and payload (R103, R122). -/
def Obligations.FrameLengthsAndCoverage : Prop :=
  (∀ (k : Byte) (p : List Byte), (encV1 k p).length = 6 + p.length ∧ (p.length ≤ 255 → (encV1 k p).length ≤ 261) ∧
    (encV1 k p).getLast? = some (foldXor (((encV1 k p).drop 3).take (p.length + 2)))) ∧
  (∀ (k : BitVec 16) (p : List Byte), (encV2 k p).length = 9 + p.length ∧
    (p.length ≤ 65535 → (encV2 k p).length ≤ 65544) ∧
    (encV2 k p).getLast? = some (crc8 (((encV2 k p).drop 3).take (p.length + 5)))) ∧
  (∀ (n k : Byte) (p : List Byte), n ^^^ k ^^^ foldXor p = foldXor ([n, k] ++ p))

/-- `build` refuses a length above the family's limit first, then a V1 code above 255, and else gives the encoded frame
of the registers and TX_BUF (R125). -/
def Obligations.BuildChecksSizeThenCode : Prop :=
  ∀ s : State,
    let n := s.txSize.toNat
    let p := (List.range n).map fun o => readByte s (0x10000 + o)
    (65535 < n → build .v2 s = .error .payloadTooLarge) ∧
    (n ≤ 65535 → build .v2 s = .ok (encV2 s.txCode p)) ∧
    (255 < n → build .v1 s = .error .payloadTooLarge) ∧
    (n ≤ 255 → 255 < s.txCode.toNat → build .v1 s = .error .codeTooLarge) ∧
    (n ≤ 255 → s.txCode.toNat ≤ 255 → build .v1 s = .ok (encV1 (s.txCode.extractLsb' 0 8) p))

/-- SEND and TRANSACT choose V2 exactly when it was negotiated, not overridden and the length fits, by the registers at
the command write; NEGOTIATE always builds V2 (R124). -/
def Obligations.FamilyChoice : Prop :=
  ∀ (s : State) (f : Bool),
    (chooseFamily s f = .v2 ↔ s.v2Supported = true ∧ f = false ∧ s.txSize.toNat ≤ 65535) ∧
    (chooseFamily s f = .v1 ↔ ¬(s.v2Supported = true ∧ f = false ∧ s.txSize.toNat ≤ 65535)) ∧
    (s.fsm = .idle →
      exec (.send f) s = .next (startSend .send (chooseFamily s f) (opBegin s)) ∧
      exec (.transact f) s = .next (startSend .transact (chooseFamily s f) (opBegin s)) ∧
      exec .negotiate s = .next (startSend .negotiate .v2 (opBegin s)))

/-- From IDLE, SEND, TRANSACT and NEGOTIATE latch the built frame and offer it, or finish at once with the refusal of
`build`; NEGOTIATE always builds V2 (R126, R127, R130, R180, R184, R185). -/
def Obligations.SendingCommandsComplete : Prop :=
  ∀ (s : State) (f : Bool) (i : Instr) (kind : LongOp) (fam : Family), s.fsm = .idle →
    (i = .send f ∧ kind = .send ∧ fam = chooseFamily s f) ∨ (i = .transact f ∧ kind = .transact ∧ fam = chooseFamily s f)
      ∨ (i = .negotiate ∧ kind = .negotiate ∧ fam = .v2) →
    (∀ frame, build fam s = .ok frame →
      exec i s = .next { s with
        done := false, result := .none, txFrame := frame, txV2 := decide (fam = .v2), op := kind, fsm := .sending }) ∧
    (∀ r, build fam s = .error r →
      exec i s = .next { s with done := true, result := r, op := .none, txFrame := [] })

/-- `TxAccept`, enabled only in SENDING: the frame joins `wire_tx`; a SEND finishes, a TRANSACT or NEGOTIATE starts its
receive phase with the deadline loaded and the RX registers and shadows cleared (R128, R141). -/
def Obligations.TxAcceptDelivers : Prop :=
  ∀ s : State,
    (enabled .txAccept s = true ↔ s.fsm = .sending) ∧
    (step ({ s with fsm := .sending, op := .send }.facing [.txAccept])
      = .next { s with
          wireTx := s.wireTx ++ [s.txFrame], result := if s.txV2 then .sentV2 else .sentV1, done := true, fsm := .idle,
          op := .none, txFrame := [] }) ∧
    (∀ kind, kind = .transact ∨ kind = .negotiate →
      step ({ s with fsm := .sending, op := kind }.facing [.txAccept])
        = .next { s with
            wireTx := s.wireTx ++ [s.txFrame], op := kind, fsm := .scan, timer := s.timeout, rxValid := false,
            rxCode := 0, rxSize := 0, rxFlag := 0, rxIsV2 := false, acc := 0, rxLen := 0, rxCodeSh := 0, rxFlagSh := 0,
            rxIdx := 0 })

/-- `TxFail`, enabled only in SENDING: the operation finishes with TRANSPORT_ERROR; `wire_tx`, the version flag and everything
else are unchanged (R129). -/
def Obligations.TxFailReports : Prop :=
  ∀ s : State,
    (enabled .txFail s = true ↔ s.fsm = .sending) ∧
    step ({ s with fsm := .sending }.facing [.txFail])
      = .next { s with result := .transportError, done := true, fsm := .idle, op := .none, txFrame := [] }

/-- Whole frame or nothing: `wire_tx` changes only by an accepted frame, appended whole (R64, R73). -/
def Obligations.WireGrowsByWholeFrames : Prop :=
  ∀ s t : State, step s = .next t →
    t.wireTx = s.wireTx ∨
      ((nextEvent s).1 = .txAccept ∧ s.fsm = .sending ∧ t.wireTx = s.wireTx ++ [s.txFrame])

/-- The frame on the TX port always equals the frame the TX registers and TX_BUF build, whether it was latched or is read
while it is sent (R57, R131). -/
def Obligations.OfferedFrameMatchesRegisters : Prop :=
  ∀ s t : State, s.FrameLatched → step s = .next t → t.FrameLatched

/-- The engine sends request frames only (R123). -/
def Obligations.OnlyRequestsAreSent : Prop :=
  ∀ s t : State, s.FrameLatched → (∀ f ∈ s.wireTx, IsRequest f) → step s = .next t → ∀ f ∈ t.wireTx, IsRequest f

/-! ## Receiving -/

/-- RECEIVE from IDLE: a fresh receive phase; the RX FIFO, the buffers and everything else stay (R126, R140, R141). -/
def Obligations.ReceiveCompletes : Prop :=
  ∀ s : State, s.fsm = .idle →
    exec .receive s = .next { s with
      done := false, result := .none, op := .receive, timer := s.timeout, rxValid := false, rxCode := 0, rxSize := 0,
      rxFlag := 0, rxIsV2 := false, acc := 0, rxLen := 0, rxCodeSh := 0, rxFlagSh := 0, rxIdx := 0, fsm := .scan }

/-- One byte in SCAN, GOT_DOLLAR and HDR_SKIP (R146, R147, R148). -/
def Obligations.ScanStatesFollowRules : Prop :=
  ∀ (s : State) (b : Byte) (q : List Byte),
    (step ({ s with fsm := .scan, rxfifo := b :: q }.facing [.rxStep])
      = .next { s with fsm := if b = 0x24#8 then .gotDollar else .scan, rxfifo := q }) ∧
    (step ({ s with fsm := .gotDollar, rxfifo := b :: q }.facing [.rxStep])
      = .next { s with fsm := if b = 0x4D#8 then .gotM else if b = 0x58#8 then .gotX else .hdrSkip, rxfifo := q }) ∧
    (step ({ s with fsm := .hdrSkip, rxfifo := b :: q }.facing [.rxStep]) = .next { s with fsm := .scan, rxfifo := q })

/-- The third byte of a header in GOT_M and GOT_X, for every byte (R149, R150). -/
def Obligations.HeaderThirdByteFollowsRules : Prop :=
  ∀ (s : State) (b : Byte) (q : List Byte),
    (step ({ s with fsm := .gotM, rxfifo := b :: q }.facing [.rxStep])
      = if b = 0x3E#8 then .next { s with acc := 0, fsm := .v1Size, rxfifo := q }
        else if b = 0x21#8 then
          .next { s with result := .rejected, done := true, fsm := .idle, op := .none, txFrame := [], rxfifo := q }
        else .next { s with fsm := .scan, rxfifo := q }) ∧
    (step ({ s with fsm := .gotX, rxfifo := b :: q }.facing [.rxStep])
      = if b = 0x3E#8 then .next { s with acc := 0, fsm := .v2Flag, rxfifo := q }
        else .next { s with fsm := .scan, rxfifo := q })

/-- The five headers as instructions, at their third byte (R149, R150, R163). -/
def Obligations.HeadersComplete : Prop :=
  ∀ s : State,
    (s.fsm = .gotM →
      exec .hdrV1Request s = .next { s with fsm := .scan } ∧
      exec .hdrV1Response s = .next { s with acc := 0, fsm := .v1Size } ∧
      exec .hdrV1Error s
        = .next { s with result := .rejected, done := true, fsm := .idle, op := .none, txFrame := [] }) ∧
    (s.fsm = .gotX →
      exec .hdrV2Request s = .next { s with fsm := .scan } ∧
      exec .hdrV2Response s = .next { s with acc := 0, fsm := .v2Flag })

/-- Model's choice (entry 4): where the scan is not at a header's third byte, a header as an instruction does nothing. -/
def Obligations.HeadersElsewhereChangeNothing : Prop :=
  ∀ s : State,
    (s.fsm ≠ .gotM → exec .hdrV1Request s = .next s ∧ exec .hdrV1Response s = .next s ∧ exec .hdrV1Error s = .next s) ∧
    (s.fsm ≠ .gotX → exec .hdrV2Request s = .next s ∧ exec .hdrV2Response s = .next s)

/-- Header recognition from SCAN: the state after three RxSteps over `$` and any two bytes, and after four over `$$M>`
(R163). -/
def Obligations.HeaderRecognitionFromScan : Prop :=
  ∀ (s : State) (c d : Byte) (q : List Byte),
    (Host.Core.run core 3
        ({ s with fsm := .scan, rxfifo := 0x24#8 :: c :: d :: q }.facing [.rxStep, .rxStep, .rxStep])
      = if c = 0x4D#8 ∧ d = 0x3E#8 then .next { s with acc := 0, fsm := .v1Size, rxfifo := q }
        else if c = 0x4D#8 ∧ d = 0x21#8 then
          .next { s with result := .rejected, done := true, fsm := .idle, op := .none, txFrame := [], rxfifo := q }
        else if c = 0x58#8 ∧ d = 0x3E#8 then .next { s with acc := 0, fsm := .v2Flag, rxfifo := q }
        else .next { s with fsm := .scan, rxfifo := q }) ∧
    (Host.Core.run core 4
        ({ s with fsm := .scan, rxfifo := 0x24#8 :: 0x24#8 :: 0x4D#8 :: 0x3E#8 :: q }.facing
          [.rxStep, .rxStep, .rxStep, .rxStep])
      = .next { s with fsm := .scan, rxfifo := q })

/-- One byte in V1_SIZE and V1_CODE (R151, R152). -/
def Obligations.V1FieldsFollowRules : Prop :=
  ∀ (s : State) (b : Byte) (q : List Byte),
    (step ({ s with fsm := .v1Size, rxfifo := b :: q }.facing [.rxStep])
      = .next { s with rxLen := b.zeroExtend 16, acc := s.acc ^^^ b, fsm := .v1Code, rxfifo := q }) ∧
    (step ({ s with fsm := .v1Code, rxfifo := b :: q }.facing [.rxStep])
      = .next { s with
          rxCodeSh := b.zeroExtend 16, acc := s.acc ^^^ b, rxIdx := 0,
          fsm := if s.rxLen = 0 then .v1Check else .v1Payload, rxfifo := q })

/-- One byte in V2_FLAG, V2_CODE_LO, V2_CODE_HI, V2_SIZE_LO and V2_SIZE_HI (R155-R159). -/
def Obligations.V2FieldsFollowRules : Prop :=
  ∀ (s : State) (b : Byte) (q : List Byte),
    (step ({ s with fsm := .v2Flag, rxfifo := b :: q }.facing [.rxStep])
      = .next { s with rxFlagSh := b, acc := crc8Step s.acc b, fsm := .v2CodeLo, rxfifo := q }) ∧
    (step ({ s with fsm := .v2CodeLo, rxfifo := b :: q }.facing [.rxStep])
      = .next { s with
          rxCodeSh := s.rxCodeSh.extractLsb' 8 8 ++ b, acc := crc8Step s.acc b, fsm := .v2CodeHi, rxfifo := q }) ∧
    (step ({ s with fsm := .v2CodeHi, rxfifo := b :: q }.facing [.rxStep])
      = .next { s with
          rxCodeSh := b ++ s.rxCodeSh.extractLsb' 0 8, acc := crc8Step s.acc b, fsm := .v2SizeLo, rxfifo := q }) ∧
    (step ({ s with fsm := .v2SizeLo, rxfifo := b :: q }.facing [.rxStep])
      = .next { s with
          rxLen := s.rxLen.extractLsb' 8 8 ++ b, acc := crc8Step s.acc b, fsm := .v2SizeHi, rxfifo := q }) ∧
    (step ({ s with fsm := .v2SizeHi, rxfifo := b :: q }.facing [.rxStep])
      = .next { s with
          rxLen := b ++ s.rxLen.extractLsb' 0 8, acc := crc8Step s.acc b, rxIdx := 0,
          fsm := if b ++ s.rxLen.extractLsb' 0 8 = 0#16 then .v2Crc else .v2Payload, rxfifo := q })

/-- One payload byte in V1_PAYLOAD and V2_PAYLOAD: stored at `RX_BUF[rx_idx]` whatever its value, every other buffer byte
kept, counted, folded into `acc`, and the state moves on at the last one (R153, R160). -/
def Obligations.PayloadBytesAreStored : Prop :=
  ∀ (s : State) (b : Byte) (q : List Byte), s.rxIdx.toNat < 65535 →
    ∃ m : Memory,
      (∀ a, readByte { s with mem := m } a = if a = 0x20000 + s.rxIdx.toNat then b else readByte s a) ∧
      (step ({ s with fsm := .v1Payload, rxfifo := b :: q }.facing [.rxStep])
        = .next { s with
            mem := m, acc := s.acc ^^^ b, rxIdx := s.rxIdx + 1, rxfifo := q,
            fsm := if s.rxIdx.toNat + 1 = s.rxLen.toNat then .v1Check else .v1Payload }) ∧
      (step ({ s with fsm := .v2Payload, rxfifo := b :: q }.facing [.rxStep])
        = .next { s with
            mem := m, acc := crc8Step s.acc b, rxIdx := s.rxIdx + 1, rxfifo := q,
            fsm := if s.rxIdx.toNat + 1 = s.rxLen.toNat then .v2Crc else .v2Payload })

/-- Model's choice (entry 13): a payload byte to be stored outside RX_BUF, which no run reaches (R164), stops the
machine. -/
def Obligations.PayloadOutsideBufferFaults : Prop :=
  ∀ (s : State) (b : Byte) (q : List Byte) (f : Fsm), f = .v1Payload ∨ f = .v2Payload → 65535 ≤ s.rxIdx.toNat →
    step ({ s with fsm := f, rxfifo := b :: q }.facing [.rxStep]) = .fault .rxIndexOutOfRange

/-- The integrity byte decides: equal to `acc`, it publishes the frame and ends the phase RX_OK; else the phase ends with
the mismatch and nothing is published. There `acc` is the value recomputed from the received fields and payload, wherever
it tracks the bytes received (`AccTracks`, kept by every step). A matching V2 frame of a NEGOTIATE sets the version flag
(R154, R161, with R170, R171, R186). -/
def Obligations.IntegrityByteDecides : Prop :=
  ∀ (s : State) (b : Byte) (q : List Byte),
    (step ({ s with fsm := .v1Check, rxfifo := b :: q }.facing [.rxStep])
      = if b = s.acc then
          .next { s with
            rxCode := s.rxCodeSh, rxSize := s.rxLen, rxFlag := 0, rxIsV2 := false, rxValid := true, result := .rxOkV1,
            done := true, fsm := .idle, op := .none, txFrame := [], rxfifo := q }
        else
          .next { s with
            result := .checksumMismatch, done := true, fsm := .idle, op := .none, txFrame := [], rxfifo := q }) ∧
    (step ({ s with fsm := .v2Crc, rxfifo := b :: q }.facing [.rxStep])
      = if b = s.acc then
          .next { s with
            rxCode := s.rxCodeSh, rxSize := s.rxLen, rxFlag := s.rxFlagSh, rxIsV2 := true, rxValid := true,
            v2Supported := s.v2Supported || decide (s.op = .negotiate), result := .rxOkV2, done := true, fsm := .idle,
            op := .none, txFrame := [], rxfifo := q }
        else
          .next { s with result := .crcMismatch, done := true, fsm := .idle, op := .none, txFrame := [], rxfifo := q }) ∧
    (s.AccTracks →
      (s.fsm = .v1Check →
        s.acc = s.rxLen.extractLsb' 0 8 ^^^ s.rxCodeSh.extractLsb' 0 8 ^^^ foldXor (rxPayload s s.rxLen.toNat)) ∧
      (s.fsm = .v2Crc →
        s.acc = crc8 ([s.rxFlagSh, s.rxCodeSh.extractLsb' 0 8, s.rxCodeSh.extractLsb' 8 8, s.rxLen.extractLsb' 0 8,
          s.rxLen.extractLsb' 8 8] ++ rxPayload s s.rxLen.toNat)))

/-- In every decode state `acc` stays the integrity value of the bytes received so far (R154, R161). -/
def Obligations.RunningIntegrityIsKept : Prop :=
  ∀ s t : State, s.Inv → s.AccTracks → step s = .next t → t.AccTracks

/-- A response frame carrying any code and payload, scanned from SCAN, is received whole: the code, the length and the
payload come back and the phase ends RX_OK (R173). -/
def Obligations.ReceiveInvertsEncode : Prop :=
  (∀ (s : State) (k : Byte) (p q : List Byte), p.length ≤ 255 →
    ∃ t, Host.Core.run core (6 + p.length)
        ({ s with fsm := .scan, rxfifo := asResponse (encV1 k p) ++ q }.facing
          (List.replicate (6 + p.length) .rxStep)) = .next t ∧
      t.fsm = .idle ∧ t.result = .rxOkV1 ∧ t.done = true ∧ t.rxValid = true ∧ t.rxCode = k.zeroExtend 16 ∧
      t.rxSize.toNat = p.length ∧ rxInfoWord t = 0#32 ∧ rxPayload t p.length = p ∧ t.rxfifo = q) ∧
  (∀ (s : State) (k : BitVec 16) (p q : List Byte), p.length ≤ 65535 →
    ∃ t, Host.Core.run core (9 + p.length)
        ({ s with fsm := .scan, rxfifo := asResponse (encV2 k p) ++ q }.facing
          (List.replicate (9 + p.length) .rxStep)) = .next t ∧
      t.fsm = .idle ∧ t.result = .rxOkV2 ∧ t.done = true ∧ t.rxValid = true ∧ t.rxCode = k ∧
      t.rxSize.toNat = p.length ∧ rxInfoWord t = 0x100#32 ∧ rxPayload t p.length = p ∧ t.rxfifo = q)

/-- `Tick`: in a receive state the deadline counts down and at its end the phase finishes with TIMEOUT; in IDLE and
SENDING nothing happens (R166, R168). -/
def Obligations.TickCountsTheDeadline : Prop :=
  ∀ s : State,
    (s.fsm.isRx = true → s.timer.toNat ≤ 1 →
      step (s.facing [.tick])
        = .next { s with timer := 0, result := .timeout, done := true, fsm := .idle, op := .none, txFrame := [] }) ∧
    (s.fsm.isRx = true → 1 < s.timer.toNat → step (s.facing [.tick]) = .next { s with timer := s.timer - 1 }) ∧
    (s.fsm = .idle ∨ s.fsm = .sending → step (s.facing [.tick]) = .next s)

/-- With the deadline loaded with k ticks, the k-th `Tick` ends the phase (with 0, the first), no earlier one does, the
partial frame is not published, and received bytes never reload the timer; `rx_begin` loads `TIMEOUT` and hides the last
frame (R167). -/
def Obligations.DeadlineIsOverall : Prop :=
  (∀ s : State, s.fsm.isRx = true →
    Host.Core.run core (max s.timer.toNat 1) (s.facing (List.replicate (max s.timer.toNat 1) .tick))
      = .next { s with timer := 0, result := .timeout, done := true, fsm := .idle, op := .none, txFrame := [] }) ∧
  (∀ (s : State) (j : Nat), s.fsm.isRx = true → j < s.timer.toNat →
    Host.Core.run core j (s.facing (List.replicate j .tick)) = .next { s with timer := s.timer - BitVec.ofNat 32 j }) ∧
  (∀ (s t : State) (b : Byte), step (s.facing [.rxStep]) = .next t ∨ step (s.facing [.rxByte b]) = .next t →
    t.timer = s.timer) ∧
  (∀ s : State, (rxBegin s).fsm = .scan ∧ (rxBegin s).timer = s.timeout ∧ (rxBegin s).rxValid = false)

/-- `RxByte` in any state: kept at the end of the FIFO while there is room, else dropped and RX_OVERRUN set;
`RXFIFO_LEVEL` reads the number of bytes kept (R62). -/
def Obligations.RxByteIsKeptOrDropped : Prop :=
  ∀ (s : State) (b : Byte),
    (s.rxfifo.length < Config.rxFifoDepth → step (s.facing [.rxByte b]) = .next { s with rxfifo := s.rxfifo ++ [b] }) ∧
    (Config.rxFifoDepth ≤ s.rxfifo.length → step (s.facing [.rxByte b]) = .next { s with rxOverrun := true }) ∧
    readReg .rxfifoLevel s = BitVec.ofNat 32 s.rxfifo.length

/-- Bytes leave the RX FIFO in the order they entered it, one per RxStep in a receive state; only FLUSH_RX in IDLE and
reset empty it (R63, R73, R144, R145). -/
def Obligations.FifoKeepsOrder : Prop :=
  ∀ s t : State, step s = .next t →
    t.rxfifo = s.rxfifo ∨
    (∃ b, (nextEvent s).1 = .rxByte b ∧ t.rxfifo = s.rxfifo ++ [b]) ∨
    ((nextEvent s).1 = .rxStep ∧ s.fsm.isRx = true ∧ ∃ b, s.rxfifo = b :: t.rxfifo) ∨
    ((nextEvent s).1 = .hostWrite cmdOffset .word 0x00000015#32 ∧ s.fsm = .idle ∧ t.rxfifo = []) ∨
    ((nextEvent s).1 = .reset ∧ t.rxfifo = [])

/-! ## Session -/

/-- ABORT in each control state, and FLUSH_RX in IDLE, which empties the RX FIFO and changes nothing else;
`RXFIFO_LEVEL` reads 0 afterwards (R188, R190). -/
def Obligations.AbortAndFlushComplete : Prop :=
  ∀ s : State,
    (s.fsm.isRx = true →
      exec .abort s = .next { s with result := .aborted, done := true, fsm := .idle, op := .none, txFrame := [] }) ∧
    (s.fsm = .sending → exec .abort s = .next { s with cmdErr := true, errCause := .busy }) ∧
    (s.fsm = .idle → exec .abort s = .next s) ∧
    (s.fsm = .idle →
      exec .flushRx s = .next { s with rxfifo := [] } ∧ readReg .rxfifoLevel { s with rxfifo := [] } = 0#32)

/-- The version flag: only a NEGOTIATE whose receive phase ends with RX_OK_V2 sets it, only reset clears it (R28). -/
def Obligations.VersionFlagIsSticky : Prop :=
  ∀ s t : State, step s = .next t →
    (s.v2Supported = false → t.v2Supported = true →
      s.op = .negotiate ∧ s.fsm = .v2Crc ∧ (nextEvent s).1 = .rxStep ∧ t.result = .rxOkV2 ∧ t.done = true) ∧
    (s.v2Supported = true → t.v2Supported = false → (nextEvent s).1 = .reset) ∧
    ((nextEvent s).1 = .reset → t.v2Supported = false)

/-- A long operation that ends, ends with its outcome: back in IDLE by any event but reset, DONE is 1, RESULT is not NONE,
no operation is in progress and no frame is held (R170, R205, R246). -/
def Obligations.OperationsEndWithAResult : Prop :=
  ∀ s t : State, s.fsm ≠ .idle → step s = .next t → t.fsm = .idle → (nextEvent s).1 ≠ .reset →
    t.done = true ∧ t.result ≠ .none ∧ t.op = .none ∧ t.txFrame = []

/-! ## The host window -/

/-- A host access answered with a bus error changes no state but the recorded answer, and its data is 0 (R59). The
answers carry the response codes of R206: 0 for OKAY, 1 to 6 for the bus errors. -/
def Obligations.BusErrorsChangeNothing : Prop :=
  (∀ (s t : State) (e : Event) (c : BusError),
    (∃ off n, e = .hostRead off n) ∨ (∃ off n v, e = .hostWrite off n v) →
    step ({ s with bus := none }.facing [e]) = .next t → t.bus = some (.error c) →
    t = { s with bus := some (.error c) } ∧ (BusAnswer.error c).data? = some 0#32) ∧
  ((∀ d, (BusAnswer.readOkay d).code = 0 ∧ (BusAnswer.readOkay d).data? = some d) ∧ BusAnswer.writeOkay.code = 0 ∧
    [BusError.decErr, .align, .size, .readOnly, .locked, .notValid].map (fun c => (BusAnswer.error c).code)
      = [1, 2, 3, 4, 5, 6])

/-- Every access is answered by what `readWindow` or `checkWrite` says of it (`BusErrorPriority`), and no read has a side
effect; repeating a write to anything but `CMD` leaves the state of writing once; repeating a `CMD` write issues the
command again (R61, with R52, R59). -/
def Obligations.AccessSideEffects : Prop :=
  (∀ (s : State) (off : Word) (n : AccessSize),
    step (s.facing [.hostRead off n]) = .next { s with bus := some (readAnswer s off.toNat n.bytes) } ∧
    (∀ d, readWindow s off.toNat n.bytes = .ok d → readAnswer s off.toNat n.bytes = .readOkay d) ∧
    (∀ c, readWindow s off.toNat n.bytes = .error c → readAnswer s off.toNat n.bytes = .error c)) ∧
  (∀ (s : State) (off : Word) (n : AccessSize) (v : Word),
    (∀ c, checkWrite s off.toNat n.bytes = .error c →
      step (s.facing [.hostWrite off n v]) = .next { s with bus := some (.error c) }) ∧
    (∀ target, checkWrite s off.toNat n.bytes = .ok target →
      ∃ t, step (s.facing [.hostWrite off n v]) = .next t ∧ t.bus = some .writeOkay)) ∧
  (∀ (s : State) (off : Word) (n : AccessSize) (v : Word), off ≠ cmdOffset →
    Host.Core.run core 2 (s.facing [.hostWrite off n v, .hostWrite off n v])
      = Host.Core.run core 1 (s.facing [.hostWrite off n v])) ∧
  (∀ (s : State) (w : Word) (i : Instr), decodeCmd w = .ok i →
    Host.Core.run core 2 (s.facing [.hostWrite cmdOffset .word w, .hostWrite cmdOffset .word w])
      = match exec i { s with bus := some .writeOkay } with
        | .next t => exec i { t with bus := some .writeOkay }
        | .fault f => .fault f
        | .refused r => .refused r)

/-- The answer to every host access of 1, 2 or 4 bytes, by the first check that fails: region, alignment; in REG size,
offset, access type, lock; in TXB range, lock; in RXB range, direction, validity (R52, R53, R56, R58, R207). -/
def Obligations.BusErrorPriority : Prop :=
  ∀ (s : State) (off : Nat) (n : Nat), n = 1 ∨ n = 2 ∨ n = 4 →
    ((0x100 ≤ off ∧ off < 0x10000 ∨ 0x30000 ≤ off) →
      readWindow s off n = .error .decErr ∧ checkWrite s off n = .error .decErr) ∧
    ((off < 0x100 ∨ 0x10000 ≤ off ∧ off < 0x30000) → off % n ≠ 0 →
      readWindow s off n = .error .align ∧ checkWrite s off n = .error .align) ∧
    (off < 0x100 → off % n = 0 →
      (n ≠ 4 → readWindow s off n = .error .size ∧ checkWrite s off n = .error .size) ∧
      (n = 4 → 0x38 ≤ off → readWindow s off n = .error .decErr ∧ checkWrite s off n = .error .decErr) ∧
      (∀ r, n = 4 → regAt off = some r →
        readWindow s off n = .ok (readReg r s) ∧
        (checkWrite s off n
          = if off ∈ [0x000, 0x018, 0x01C, 0x020, 0x030, 0x034] then .error .readOnly
            else if off ∈ [0x010, 0x014] ∧ s.fsm = .sending then .error .locked
            else .ok (.reg r)))) ∧
    (0x10000 ≤ off → off < 0x20000 → off % n = 0 →
      (readWindow s off n = if 65535 < off - 0x10000 + n then .error .decErr else .ok (memRead s off n)) ∧
      (checkWrite s off n
        = if 65535 < off - 0x10000 + n then .error .decErr
          else if s.fsm = .sending then .error .locked else .ok (.txb off))) ∧
    (0x20000 ≤ off → off < 0x30000 → off % n = 0 →
      (readWindow s off n
        = if 65535 < off - 0x20000 + n then .error .decErr
          else if s.rxValid = false ∨ s.rxSize.toNat < off - 0x20000 + n then .error .notValid
          else .ok (memRead s off n)) ∧
      (checkWrite s off n = if 65535 < off - 0x20000 + n then .error .decErr else .error .readOnly))

/-- The fourteen registers and what each reads (R22-R24, R33-R43). -/
def Obligations.RegisterMapReads : Prop :=
  ∀ s : State,
    readWindow s 0x000 4 = .ok 0x4D535001#32 ∧
    readWindow s 0x004 4 = .ok 0#32 ∧
    readWindow s 0x008 4 = .ok (statusWord s) ∧
    readWindow s 0x00C 4 = .ok (irqEnWord s) ∧
    readWindow s 0x010 4 = .ok (s.txCode.zeroExtend 32) ∧
    readWindow s 0x014 4 = .ok s.txSize ∧
    readWindow s 0x018 4 = .ok (s.rxCode.zeroExtend 32) ∧
    readWindow s 0x01C 4 = .ok (s.rxSize.zeroExtend 32) ∧
    readWindow s 0x020 4 = .ok ((BitVec.ofBool s.rxIsV2).zeroExtend 32 <<< 8 ||| s.rxFlag.zeroExtend 32) ∧
    readWindow s 0x024 4 = .ok (s.crcAcc.zeroExtend 32) ∧
    readWindow s 0x028 4 = .ok (s.xorAcc.zeroExtend 32) ∧
    readWindow s 0x02C 4 = .ok s.timeout ∧
    readWindow s 0x030 4 = .ok s.timer ∧
    readWindow s 0x034 4 = .ok (BitVec.ofNat 32 s.rxfifo.length)

/-- The fields of `STATUS`, bit by bit, with the numbers of `STATE`, `RESULT` and `ERR_CAUSE`; reserved bits read 0,
`STATE` is the encoding of `fsm` and `BUSY` says it is not IDLE (R25, R26; the numbers of R44, R27 and R32). -/
def Obligations.StatusWordFields : Prop :=
  [Fsm.idle, .sending, .scan, .gotDollar, .gotM, .gotX, .hdrSkip, .v1Size, .v1Code, .v1Payload, .v1Check, .v2Flag,
    .v2CodeLo, .v2CodeHi, .v2SizeLo, .v2SizeHi, .v2Payload, .v2Crc].map (fun f => f.code.toNat) = List.range 18 ∧
  [Result.none, .sentV1, .sentV2, .rxOkV1, .rxOkV2, .rejected, .timeout, .checksumMismatch, .crcMismatch,
    .payloadTooLarge, .codeTooLarge, .transportError, .aborted].map (fun r => r.code.toNat) = List.range 13 ∧
  [ErrCause.none, .illegalOp, .reservedField, .busy].map (fun c => c.code.toNat) = List.range 4 ∧
  ∀ s : State,
    (statusWord s).extractLsb' 0 5 = s.fsm.code ∧
    (statusWord s).extractLsb' 5 3 = 0#3 ∧
    (statusWord s).extractLsb' 8 4 = s.result.code ∧
    ((statusWord s).getLsbD 12 = true ↔ s.fsm ≠ .idle) ∧
    (statusWord s).getLsbD 13 = s.v2Supported ∧
    (statusWord s).getLsbD 14 = s.rxValid ∧
    (statusWord s).getLsbD 15 = s.txV2 ∧
    (statusWord s).getLsbD 16 = s.done ∧
    (statusWord s).getLsbD 17 = s.cmdErr ∧
    (statusWord s).getLsbD 18 = s.rxOverrun ∧
    (statusWord s).extractLsb' 19 5 = 0#5 ∧
    (statusWord s).extractLsb' 24 3 = s.errCause.code ∧
    (statusWord s).extractLsb' 27 5 = 0#5

/-- A host write to each writable register stores its bits and changes nothing else but the bus answer, and reading it
back gives the written value with the ignored bits 0 (R33, R34, R35, R39, R40, R41). -/
def Obligations.RegisterWritesReadBack : Prop :=
  ∀ (s : State) (v : Word),
    let wrote (off : Word) (t : State) (back : Word) : Prop :=
      step (s.facing [.hostWrite off .word v]) = .next { t with bus := some .writeOkay } ∧
        readWindow t off.toNat 4 = .ok back
    wrote 0x00C#32 { s with doneIe := v.getLsbD 16, cmdErrIe := v.getLsbD 17, ovrIe := v.getLsbD 18 }
      (v &&& 0x00070000#32) ∧
    (s.fsm ≠ .sending → wrote 0x010#32 { s with txCode := v.setWidth 16 } (v &&& 0x0000FFFF#32)) ∧
    (s.fsm ≠ .sending → wrote 0x014#32 { s with txSize := v } v) ∧
    wrote 0x024#32 { s with crcAcc := v.setWidth 8 } (v &&& 0x000000FF#32) ∧
    wrote 0x028#32 { s with xorAcc := v.setWidth 8 } (v &&& 0x000000FF#32) ∧
    wrote 0x02C#32 { s with timeout := v } v

/-- A host write to `STATUS` clears exactly the W1C flags whose bit it sets, answers OKAY and changes nothing else; no
other `STATUS` field can be written (R25, R31). -/
def Obligations.StatusWriteClearsFlags : Prop :=
  ∀ (s : State) (v : Word),
    step (s.facing [.hostWrite 0x008#32 .word v])
      = .next { s with
          done := if v.getLsbD 16 then false else s.done,
          cmdErr := if v.getLsbD 17 then false else s.cmdErr,
          rxOverrun := if v.getLsbD 18 then false else s.rxOverrun,
          bus := some .writeOkay }

/-- While a frame is offered, every well-formed write to `TX_CODE`, `TX_SIZE` or TX_BUF answers LOCKED and changes
nothing, and no write whatever changes them or the frame (R57; a misaligned one answers ALIGN first, R207). -/
def Obligations.SendingLocksFrameOperands : Prop :=
  (∀ (s : State) (off v : Word) (n : AccessSize), s.fsm = .sending →
    ((off = 0x010#32 ∨ off = 0x014#32) ∧ n = .word) ∨
      (0x10000 ≤ off.toNat ∧ off.toNat + n.bytes ≤ 0x1FFFF ∧ off.toNat % n.bytes = 0) →
    step (s.facing [.hostWrite off n v]) = .next { s with bus := some (.error .locked) }) ∧
  (∀ (s t : State) (off v : Word) (n : AccessSize), s.fsm = .sending → step (s.facing [.hostWrite off n v]) = .next t →
    t.fsm = .sending ∧ t.txCode = s.txCode ∧ t.txSize = s.txSize ∧ t.txFrame = s.txFrame ∧
      ∀ o, o < 65535 → readByte t (0x10000 + o) = readByte s (0x10000 + o))

/-- An aligned write inside TX_BUF outside SENDING stores the low n bytes of the value, the lowest offset first, and
changes no other byte and no register; reading it back gives those bytes zero-extended (R54, R55, R56). -/
def Obligations.TxBufWritesReadBack : Prop :=
  ∀ (s : State) (off v : Word) (n : AccessSize), s.fsm ≠ .sending →
    0x10000 ≤ off.toNat → off.toNat + n.bytes ≤ 0x1FFFF → off.toNat % n.bytes = 0 →
    ∃ m : Memory,
      step (s.facing [.hostWrite off n v]) = .next { s with mem := m, bus := some .writeOkay } ∧
      (∀ i, i < n.bytes → readByte { s with mem := m } (off.toNat + i) = v.extractLsb' (8 * i) 8) ∧
      (∀ a, a < off.toNat ∨ off.toNat + n.bytes ≤ a → readByte { s with mem := m } a = readByte s a) ∧
      readWindow { s with mem := m } off.toNat n.bytes = .ok (BitVec.ofNat 32 (v.toNat % 2 ^ (8 * n.bytes)))

/-- The interrupt level is exactly the enabled W1C bits of `STATUS`, bit by bit in `IRQ_EN`'s positions (R214, R215). -/
def Obligations.IrqIsEnabledStatus : Prop :=
  ∀ s : State,
    irq s = ((s.done && s.doneIe) || (s.cmdErr && s.cmdErrIe) || (s.rxOverrun && s.ovrIe)) ∧
    (irq s = true ↔ statusWord s &&& irqEnWord s ≠ 0#32) ∧
    irq State.reset = false

/-- A host never learns a byte of RX_BUF that belongs neither to a valid frame nor to the frame being decoded: of two
states that differ only in such bytes, a step gives states that again differ only so; the answers, the frames sent and
every register are equal. Nor does it see any byte of RX_BUF, those of the frame being decoded among them, while a receive
phase runs: every read inside RX_BUF answers NOT_VALID (R58, R172). -/
def Obligations.HiddenBytesStayHidden : Prop :=
  (∀ s t s' : State, s.Inv → SameToHost s t → step s = .next s' →
    ∃ t', step t = .next t' ∧ SameToHost s' t' ∧ t'.bus = s'.bus ∧ t'.wireTx = s'.wireTx ∧ irq t' = irq s') ∧
  (∀ (s : State) (off : Word) (n : AccessSize), s.Inv → s.fsm.isRx = true →
    0x20000 ≤ off.toNat → off.toNat + n.bytes ≤ 0x2FFFF → off.toNat % n.bytes = 0 →
    step (s.facing [.hostRead off n]) = .next { s with bus := some (.error .notValid) })

/-! ## Reset -/

/-- `Reset`, always enabled: every register at its reset value in one step, from every state, `wire_tx` unchanged
(R230). -/
def Obligations.ResetClearsTheEngine : Prop :=
  ∀ s : State, enabled .reset s = true ∧
    ∃ t, step (s.facing [.reset]) = .next t ∧
      t.fsm = .idle ∧ t.op = .none ∧ statusWord t = 0#32 ∧ irqEnWord t = 0#32 ∧ t.txCode = 0 ∧ t.txSize = 0 ∧
      t.rxCode = 0 ∧ t.rxSize = 0 ∧ rxInfoWord t = 0#32 ∧ t.crcAcc = 0 ∧ t.xorAcc = 0 ∧ t.timeout = 0 ∧ t.timer = 0 ∧
      t.acc = 0 ∧ t.rxLen = 0 ∧ t.rxCodeSh = 0 ∧ t.rxFlagSh = 0 ∧ t.rxIdx = 0 ∧ t.txFrame = [] ∧ t.rxfifo = [] ∧
      readReg .rxfifoLevel t = 0#32 ∧ readReg .id s = 0x4D535001#32 ∧ readReg .id t = 0x4D535001#32 ∧
      t.wireTx = s.wireTx ∧ irq t = false

/-- The state right after reset reads 0 in every register but `ID` and has sent nothing. Model's choices (entries 5, 8
and 9): a buffer byte not written since a reset is a free value of that reset's draw, in the state after reset and after
a `Reset` of any state; `Reset` keeps the last bus answer and the schedule. -/
def Obligations.ResetStateReadsZero : Prop :=
  (∀ r : Reg, r ≠ .id → readReg r State.reset = 0#32) ∧ readReg .id State.reset = 0x4D535001#32 ∧
    State.reset.wireTx = [] ∧ irq State.reset = false ∧
    (∀ a, readByte State.reset a = Config.bufDraw State.reset.draw a) ∧
    (∀ s : State, ∃ t, step (s.facing [.reset]) = .next t ∧ (∀ a, readByte t a = Config.bufDraw (s.draw + 1) a) ∧
      t.bus = s.bus ∧ t.sched = s.sched ∧ t.envIdx = s.envIdx)

/-! ## Invariants and frames of the whole machine -/

/-- The reset state meets every invariant. -/
def Obligations.ResetMeetsInvariants : Prop :=
  State.reset.Inv ∧ State.reset.FrameLatched ∧ State.reset.AccTracks

/-- Every step keeps the invariant, from every state that meets it (R38, R45, R47, R48, R126, R141, R164, R170, R172). -/
def Obligations.StepsKeepTheInvariant : Prop :=
  ∀ s t : State, s.Inv → step s = .next t → t.Inv

/-- From every state that meets the invariant a step completes: no fault and no refusal is ever reached (R164, R205,
93 I-10). -/
def Obligations.InvariantStatesNeverStop : Prop :=
  ∀ s : State, s.Inv → ∃ t, step s = .next t

/-- What no instruction changes when it completes: the host's registers, every byte of the buffers, the output log, the
overrun flag, the version flag; and which instructions alone change an accumulator or the RX FIFO (R105-R109, R130, R140,
R180, R184, R188, R190). -/
def Obligations.CommandFrame : Prop :=
  ∀ (i : Instr) (s t : State), exec i s = .next t →
    (t.txCode = s.txCode ∧ t.txSize = s.txSize ∧ t.timeout = s.timeout ∧ t.doneIe = s.doneIe ∧
      t.cmdErrIe = s.cmdErrIe ∧ t.ovrIe = s.ovrIe ∧ t.rxOverrun = s.rxOverrun ∧ t.v2Supported = s.v2Supported ∧
      t.wireTx = s.wireTx ∧ t.bus = s.bus ∧ t.draw = s.draw ∧ t.sched = s.sched ∧ t.envIdx = s.envIdx) ∧
    (∀ a, readByte t a = readByte s a) ∧
    (t.crcAcc = s.crcAcc ∨ i = .crcClr ∨ ∃ d, i = .crcByte d) ∧
    (t.xorAcc = s.xorAcc ∨ i = .xorClr ∨ ∃ d, i = .xorByte d) ∧
    (t.rxfifo = s.rxfifo ∨ i = .flushRx)

/-- Only the host's window writes change TX_BUF, only the decoder's payload states change RX_BUF, one byte at a time, and
reset redraws both (R55, R57). -/
def Obligations.BufferWriters : Prop :=
  ∀ (s t : State) (a : Nat), step s = .next t → readByte t a ≠ readByte s a →
    (∃ off n v, (nextEvent s).1 = .hostWrite off n v ∧ s.fsm ≠ .sending ∧ off.toNat ≤ a ∧ a < off.toNat + n.bytes ∧
      0x10000 ≤ a ∧ a < 0x1FFFF) ∨
    ((nextEvent s).1 = .rxStep ∧ (s.fsm = .v1Payload ∨ s.fsm = .v2Payload) ∧ a = 0x20000 + s.rxIdx.toNat ∧ a < 0x2FFFF) ∨
    (nextEvent s).1 = .reset

/-- The registers a host writes, and the accumulators, change only by a host write or reset; `RX_CODE`, `RX_SIZE`,
`RX_INFO` and `RX_VALID` change only at `rx_begin` (RECEIVE from IDLE, TxAccept in SENDING), at the commit of a frame (the
RxStep of its integrity byte), or by reset (R29, R36-R41, R49). -/
def Obligations.RegisterWriters : Prop :=
  ∀ s t : State, step s = .next t → (nextEvent s).1 ≠ .reset →
    ((∀ off n v, (nextEvent s).1 ≠ .hostWrite off n v) →
      t.txCode = s.txCode ∧ t.txSize = s.txSize ∧ t.timeout = s.timeout ∧ t.doneIe = s.doneIe ∧
      t.cmdErrIe = s.cmdErrIe ∧ t.ovrIe = s.ovrIe ∧ t.crcAcc = s.crcAcc ∧ t.xorAcc = s.xorAcc) ∧
    ((t.rxCode = s.rxCode ∧ t.rxSize = s.rxSize ∧ t.rxFlag = s.rxFlag ∧ t.rxIsV2 = s.rxIsV2 ∧ t.rxValid = s.rxValid) ∨
      (((nextEvent s).1 = .hostWrite cmdOffset .word 0x00000011#32 ∧ s.fsm = .idle ∨
          (nextEvent s).1 = .txAccept ∧ s.fsm = .sending) ∧
        t.fsm = .scan ∧ t.rxValid = false ∧ t.rxCode = 0 ∧ t.rxSize = 0 ∧ rxInfoWord t = 0#32) ∨
      ((nextEvent s).1 = .rxStep ∧ (s.fsm = .v1Check ∨ s.fsm = .v2Crc) ∧ t.fsm = .idle ∧ t.rxValid = true ∧
        t.rxCode = s.rxCodeSh ∧ t.rxSize = s.rxLen ∧ t.rxIsV2 = decide (s.fsm = .v2Crc) ∧
        t.rxFlag = if s.fsm = .v2Crc then s.rxFlagSh else 0))
end

