-- ==== Sys2Proof/Laws/State.lean ====
section
/-! SUPPORT. What each shared update of the state does to each field, one lemma per field per update, all true by
unfolding, so that no proof unfolds a record update again. -/

namespace Sys2Proof.Machine

variable (s : State)

/-! ### opBegin -/

@[simp] theorem opBegin_fsm : (opBegin s).fsm = s.fsm := rfl
@[simp] theorem opBegin_op : (opBegin s).op = s.op := rfl
@[simp] theorem opBegin_result : (opBegin s).result = .none := rfl
@[simp] theorem opBegin_v2Supported : (opBegin s).v2Supported = s.v2Supported := rfl
@[simp] theorem opBegin_rxValid : (opBegin s).rxValid = s.rxValid := rfl
@[simp] theorem opBegin_txV2 : (opBegin s).txV2 = s.txV2 := rfl
@[simp] theorem opBegin_done : (opBegin s).done = false := rfl
@[simp] theorem opBegin_cmdErr : (opBegin s).cmdErr = s.cmdErr := rfl
@[simp] theorem opBegin_rxOverrun : (opBegin s).rxOverrun = s.rxOverrun := rfl
@[simp] theorem opBegin_errCause : (opBegin s).errCause = s.errCause := rfl
@[simp] theorem opBegin_doneIe : (opBegin s).doneIe = s.doneIe := rfl
@[simp] theorem opBegin_cmdErrIe : (opBegin s).cmdErrIe = s.cmdErrIe := rfl
@[simp] theorem opBegin_ovrIe : (opBegin s).ovrIe = s.ovrIe := rfl
@[simp] theorem opBegin_txCode : (opBegin s).txCode = s.txCode := rfl
@[simp] theorem opBegin_txSize : (opBegin s).txSize = s.txSize := rfl
@[simp] theorem opBegin_rxCode : (opBegin s).rxCode = s.rxCode := rfl
@[simp] theorem opBegin_rxSize : (opBegin s).rxSize = s.rxSize := rfl
@[simp] theorem opBegin_rxFlag : (opBegin s).rxFlag = s.rxFlag := rfl
@[simp] theorem opBegin_rxIsV2 : (opBegin s).rxIsV2 = s.rxIsV2 := rfl
@[simp] theorem opBegin_crcAcc : (opBegin s).crcAcc = s.crcAcc := rfl
@[simp] theorem opBegin_xorAcc : (opBegin s).xorAcc = s.xorAcc := rfl
@[simp] theorem opBegin_timeout : (opBegin s).timeout = s.timeout := rfl
@[simp] theorem opBegin_timer : (opBegin s).timer = s.timer := rfl
@[simp] theorem opBegin_acc : (opBegin s).acc = s.acc := rfl
@[simp] theorem opBegin_rxLen : (opBegin s).rxLen = s.rxLen := rfl
@[simp] theorem opBegin_rxCodeSh : (opBegin s).rxCodeSh = s.rxCodeSh := rfl
@[simp] theorem opBegin_rxFlagSh : (opBegin s).rxFlagSh = s.rxFlagSh := rfl
@[simp] theorem opBegin_rxIdx : (opBegin s).rxIdx = s.rxIdx := rfl
@[simp] theorem opBegin_txFrame : (opBegin s).txFrame = s.txFrame := rfl
@[simp] theorem opBegin_mem : (opBegin s).mem = s.mem := rfl
@[simp] theorem opBegin_rxfifo : (opBegin s).rxfifo = s.rxfifo := rfl
@[simp] theorem opBegin_wireTx : (opBegin s).wireTx = s.wireTx := rfl
@[simp] theorem opBegin_bus : (opBegin s).bus = s.bus := rfl
@[simp] theorem opBegin_draw : (opBegin s).draw = s.draw := rfl
@[simp] theorem opBegin_sched : (opBegin s).sched = s.sched := rfl
@[simp] theorem opBegin_envIdx : (opBegin s).envIdx = s.envIdx := rfl

/-! ### finish -/

@[simp] theorem finish_fsm (r : Result) : (finish r s).fsm = .idle := rfl
@[simp] theorem finish_op (r : Result) : (finish r s).op = .none := rfl
@[simp] theorem finish_result (r : Result) : (finish r s).result = r := rfl
@[simp] theorem finish_v2Supported (r : Result) : (finish r s).v2Supported = (s.v2Supported || (decide (s.op = .negotiate) && decide (r = .rxOkV2))) := rfl
@[simp] theorem finish_rxValid (r : Result) : (finish r s).rxValid = s.rxValid := rfl
@[simp] theorem finish_txV2 (r : Result) : (finish r s).txV2 = s.txV2 := rfl
@[simp] theorem finish_done (r : Result) : (finish r s).done = true := rfl
@[simp] theorem finish_cmdErr (r : Result) : (finish r s).cmdErr = s.cmdErr := rfl
@[simp] theorem finish_rxOverrun (r : Result) : (finish r s).rxOverrun = s.rxOverrun := rfl
@[simp] theorem finish_errCause (r : Result) : (finish r s).errCause = s.errCause := rfl
@[simp] theorem finish_doneIe (r : Result) : (finish r s).doneIe = s.doneIe := rfl
@[simp] theorem finish_cmdErrIe (r : Result) : (finish r s).cmdErrIe = s.cmdErrIe := rfl
@[simp] theorem finish_ovrIe (r : Result) : (finish r s).ovrIe = s.ovrIe := rfl
@[simp] theorem finish_txCode (r : Result) : (finish r s).txCode = s.txCode := rfl
@[simp] theorem finish_txSize (r : Result) : (finish r s).txSize = s.txSize := rfl
@[simp] theorem finish_rxCode (r : Result) : (finish r s).rxCode = s.rxCode := rfl
@[simp] theorem finish_rxSize (r : Result) : (finish r s).rxSize = s.rxSize := rfl
@[simp] theorem finish_rxFlag (r : Result) : (finish r s).rxFlag = s.rxFlag := rfl
@[simp] theorem finish_rxIsV2 (r : Result) : (finish r s).rxIsV2 = s.rxIsV2 := rfl
@[simp] theorem finish_crcAcc (r : Result) : (finish r s).crcAcc = s.crcAcc := rfl
@[simp] theorem finish_xorAcc (r : Result) : (finish r s).xorAcc = s.xorAcc := rfl
@[simp] theorem finish_timeout (r : Result) : (finish r s).timeout = s.timeout := rfl
@[simp] theorem finish_timer (r : Result) : (finish r s).timer = s.timer := rfl
@[simp] theorem finish_acc (r : Result) : (finish r s).acc = s.acc := rfl
@[simp] theorem finish_rxLen (r : Result) : (finish r s).rxLen = s.rxLen := rfl
@[simp] theorem finish_rxCodeSh (r : Result) : (finish r s).rxCodeSh = s.rxCodeSh := rfl
@[simp] theorem finish_rxFlagSh (r : Result) : (finish r s).rxFlagSh = s.rxFlagSh := rfl
@[simp] theorem finish_rxIdx (r : Result) : (finish r s).rxIdx = s.rxIdx := rfl
@[simp] theorem finish_txFrame (r : Result) : (finish r s).txFrame = [] := rfl
@[simp] theorem finish_mem (r : Result) : (finish r s).mem = s.mem := rfl
@[simp] theorem finish_rxfifo (r : Result) : (finish r s).rxfifo = s.rxfifo := rfl
@[simp] theorem finish_wireTx (r : Result) : (finish r s).wireTx = s.wireTx := rfl
@[simp] theorem finish_bus (r : Result) : (finish r s).bus = s.bus := rfl
@[simp] theorem finish_draw (r : Result) : (finish r s).draw = s.draw := rfl
@[simp] theorem finish_sched (r : Result) : (finish r s).sched = s.sched := rfl
@[simp] theorem finish_envIdx (r : Result) : (finish r s).envIdx = s.envIdx := rfl

/-! ### rxBegin -/

@[simp] theorem rxBegin_fsm : (rxBegin s).fsm = .scan := rfl
@[simp] theorem rxBegin_op : (rxBegin s).op = s.op := rfl
@[simp] theorem rxBegin_result : (rxBegin s).result = s.result := rfl
@[simp] theorem rxBegin_v2Supported : (rxBegin s).v2Supported = s.v2Supported := rfl
@[simp] theorem rxBegin_rxValid : (rxBegin s).rxValid = false := rfl
@[simp] theorem rxBegin_txV2 : (rxBegin s).txV2 = s.txV2 := rfl
@[simp] theorem rxBegin_done : (rxBegin s).done = s.done := rfl
@[simp] theorem rxBegin_cmdErr : (rxBegin s).cmdErr = s.cmdErr := rfl
@[simp] theorem rxBegin_rxOverrun : (rxBegin s).rxOverrun = s.rxOverrun := rfl
@[simp] theorem rxBegin_errCause : (rxBegin s).errCause = s.errCause := rfl
@[simp] theorem rxBegin_doneIe : (rxBegin s).doneIe = s.doneIe := rfl
@[simp] theorem rxBegin_cmdErrIe : (rxBegin s).cmdErrIe = s.cmdErrIe := rfl
@[simp] theorem rxBegin_ovrIe : (rxBegin s).ovrIe = s.ovrIe := rfl
@[simp] theorem rxBegin_txCode : (rxBegin s).txCode = s.txCode := rfl
@[simp] theorem rxBegin_txSize : (rxBegin s).txSize = s.txSize := rfl
@[simp] theorem rxBegin_rxCode : (rxBegin s).rxCode = 0 := rfl
@[simp] theorem rxBegin_rxSize : (rxBegin s).rxSize = 0 := rfl
@[simp] theorem rxBegin_rxFlag : (rxBegin s).rxFlag = 0 := rfl
@[simp] theorem rxBegin_rxIsV2 : (rxBegin s).rxIsV2 = false := rfl
@[simp] theorem rxBegin_crcAcc : (rxBegin s).crcAcc = s.crcAcc := rfl
@[simp] theorem rxBegin_xorAcc : (rxBegin s).xorAcc = s.xorAcc := rfl
@[simp] theorem rxBegin_timeout : (rxBegin s).timeout = s.timeout := rfl
@[simp] theorem rxBegin_timer : (rxBegin s).timer = s.timeout := rfl
@[simp] theorem rxBegin_acc : (rxBegin s).acc = 0 := rfl
@[simp] theorem rxBegin_rxLen : (rxBegin s).rxLen = 0 := rfl
@[simp] theorem rxBegin_rxCodeSh : (rxBegin s).rxCodeSh = 0 := rfl
@[simp] theorem rxBegin_rxFlagSh : (rxBegin s).rxFlagSh = 0 := rfl
@[simp] theorem rxBegin_rxIdx : (rxBegin s).rxIdx = 0 := rfl
@[simp] theorem rxBegin_txFrame : (rxBegin s).txFrame = s.txFrame := rfl
@[simp] theorem rxBegin_mem : (rxBegin s).mem = s.mem := rfl
@[simp] theorem rxBegin_rxfifo : (rxBegin s).rxfifo = s.rxfifo := rfl
@[simp] theorem rxBegin_wireTx : (rxBegin s).wireTx = s.wireTx := rfl
@[simp] theorem rxBegin_bus : (rxBegin s).bus = s.bus := rfl
@[simp] theorem rxBegin_draw : (rxBegin s).draw = s.draw := rfl
@[simp] theorem rxBegin_sched : (rxBegin s).sched = s.sched := rfl
@[simp] theorem rxBegin_envIdx : (rxBegin s).envIdx = s.envIdx := rfl

/-! ### commit -/

@[simp] theorem commit_fsm (fam : Family) : (commit fam s).fsm = s.fsm := rfl
@[simp] theorem commit_op (fam : Family) : (commit fam s).op = s.op := rfl
@[simp] theorem commit_result (fam : Family) : (commit fam s).result = s.result := rfl
@[simp] theorem commit_v2Supported (fam : Family) : (commit fam s).v2Supported = s.v2Supported := rfl
@[simp] theorem commit_rxValid (fam : Family) : (commit fam s).rxValid = true := rfl
@[simp] theorem commit_txV2 (fam : Family) : (commit fam s).txV2 = s.txV2 := rfl
@[simp] theorem commit_done (fam : Family) : (commit fam s).done = s.done := rfl
@[simp] theorem commit_cmdErr (fam : Family) : (commit fam s).cmdErr = s.cmdErr := rfl
@[simp] theorem commit_rxOverrun (fam : Family) : (commit fam s).rxOverrun = s.rxOverrun := rfl
@[simp] theorem commit_errCause (fam : Family) : (commit fam s).errCause = s.errCause := rfl
@[simp] theorem commit_doneIe (fam : Family) : (commit fam s).doneIe = s.doneIe := rfl
@[simp] theorem commit_cmdErrIe (fam : Family) : (commit fam s).cmdErrIe = s.cmdErrIe := rfl
@[simp] theorem commit_ovrIe (fam : Family) : (commit fam s).ovrIe = s.ovrIe := rfl
@[simp] theorem commit_txCode (fam : Family) : (commit fam s).txCode = s.txCode := rfl
@[simp] theorem commit_txSize (fam : Family) : (commit fam s).txSize = s.txSize := rfl
@[simp] theorem commit_rxCode (fam : Family) : (commit fam s).rxCode = s.rxCodeSh := rfl
@[simp] theorem commit_rxSize (fam : Family) : (commit fam s).rxSize = s.rxLen := rfl
@[simp] theorem commit_rxFlag (fam : Family) : (commit fam s).rxFlag = (if fam = .v2 then s.rxFlagSh else 0) := rfl
@[simp] theorem commit_rxIsV2 (fam : Family) : (commit fam s).rxIsV2 = decide (fam = .v2) := rfl
@[simp] theorem commit_crcAcc (fam : Family) : (commit fam s).crcAcc = s.crcAcc := rfl
@[simp] theorem commit_xorAcc (fam : Family) : (commit fam s).xorAcc = s.xorAcc := rfl
@[simp] theorem commit_timeout (fam : Family) : (commit fam s).timeout = s.timeout := rfl
@[simp] theorem commit_timer (fam : Family) : (commit fam s).timer = s.timer := rfl
@[simp] theorem commit_acc (fam : Family) : (commit fam s).acc = s.acc := rfl
@[simp] theorem commit_rxLen (fam : Family) : (commit fam s).rxLen = s.rxLen := rfl
@[simp] theorem commit_rxCodeSh (fam : Family) : (commit fam s).rxCodeSh = s.rxCodeSh := rfl
@[simp] theorem commit_rxFlagSh (fam : Family) : (commit fam s).rxFlagSh = s.rxFlagSh := rfl
@[simp] theorem commit_rxIdx (fam : Family) : (commit fam s).rxIdx = s.rxIdx := rfl
@[simp] theorem commit_txFrame (fam : Family) : (commit fam s).txFrame = s.txFrame := rfl
@[simp] theorem commit_mem (fam : Family) : (commit fam s).mem = s.mem := rfl
@[simp] theorem commit_rxfifo (fam : Family) : (commit fam s).rxfifo = s.rxfifo := rfl
@[simp] theorem commit_wireTx (fam : Family) : (commit fam s).wireTx = s.wireTx := rfl
@[simp] theorem commit_bus (fam : Family) : (commit fam s).bus = s.bus := rfl
@[simp] theorem commit_draw (fam : Family) : (commit fam s).draw = s.draw := rfl
@[simp] theorem commit_sched (fam : Family) : (commit fam s).sched = s.sched := rfl
@[simp] theorem commit_envIdx (fam : Family) : (commit fam s).envIdx = s.envIdx := rfl

/-! ### latchFrame -/

@[simp] theorem latchFrame_fsm (kind : LongOp) (fam : Family) (fr : List Byte) : (latchFrame kind fam fr s).fsm = .sending := rfl
@[simp] theorem latchFrame_op (kind : LongOp) (fam : Family) (fr : List Byte) : (latchFrame kind fam fr s).op = kind := rfl
@[simp] theorem latchFrame_result (kind : LongOp) (fam : Family) (fr : List Byte) : (latchFrame kind fam fr s).result = s.result := rfl
@[simp] theorem latchFrame_v2Supported (kind : LongOp) (fam : Family) (fr : List Byte) : (latchFrame kind fam fr s).v2Supported = s.v2Supported := rfl
@[simp] theorem latchFrame_rxValid (kind : LongOp) (fam : Family) (fr : List Byte) : (latchFrame kind fam fr s).rxValid = s.rxValid := rfl
@[simp] theorem latchFrame_txV2 (kind : LongOp) (fam : Family) (fr : List Byte) : (latchFrame kind fam fr s).txV2 = decide (fam = .v2) := rfl
@[simp] theorem latchFrame_done (kind : LongOp) (fam : Family) (fr : List Byte) : (latchFrame kind fam fr s).done = s.done := rfl
@[simp] theorem latchFrame_cmdErr (kind : LongOp) (fam : Family) (fr : List Byte) : (latchFrame kind fam fr s).cmdErr = s.cmdErr := rfl
@[simp] theorem latchFrame_rxOverrun (kind : LongOp) (fam : Family) (fr : List Byte) : (latchFrame kind fam fr s).rxOverrun = s.rxOverrun := rfl
@[simp] theorem latchFrame_errCause (kind : LongOp) (fam : Family) (fr : List Byte) : (latchFrame kind fam fr s).errCause = s.errCause := rfl
@[simp] theorem latchFrame_doneIe (kind : LongOp) (fam : Family) (fr : List Byte) : (latchFrame kind fam fr s).doneIe = s.doneIe := rfl
@[simp] theorem latchFrame_cmdErrIe (kind : LongOp) (fam : Family) (fr : List Byte) : (latchFrame kind fam fr s).cmdErrIe = s.cmdErrIe := rfl
@[simp] theorem latchFrame_ovrIe (kind : LongOp) (fam : Family) (fr : List Byte) : (latchFrame kind fam fr s).ovrIe = s.ovrIe := rfl
@[simp] theorem latchFrame_txCode (kind : LongOp) (fam : Family) (fr : List Byte) : (latchFrame kind fam fr s).txCode = s.txCode := rfl
@[simp] theorem latchFrame_txSize (kind : LongOp) (fam : Family) (fr : List Byte) : (latchFrame kind fam fr s).txSize = s.txSize := rfl
@[simp] theorem latchFrame_rxCode (kind : LongOp) (fam : Family) (fr : List Byte) : (latchFrame kind fam fr s).rxCode = s.rxCode := rfl
@[simp] theorem latchFrame_rxSize (kind : LongOp) (fam : Family) (fr : List Byte) : (latchFrame kind fam fr s).rxSize = s.rxSize := rfl
@[simp] theorem latchFrame_rxFlag (kind : LongOp) (fam : Family) (fr : List Byte) : (latchFrame kind fam fr s).rxFlag = s.rxFlag := rfl
@[simp] theorem latchFrame_rxIsV2 (kind : LongOp) (fam : Family) (fr : List Byte) : (latchFrame kind fam fr s).rxIsV2 = s.rxIsV2 := rfl
@[simp] theorem latchFrame_crcAcc (kind : LongOp) (fam : Family) (fr : List Byte) : (latchFrame kind fam fr s).crcAcc = s.crcAcc := rfl
@[simp] theorem latchFrame_xorAcc (kind : LongOp) (fam : Family) (fr : List Byte) : (latchFrame kind fam fr s).xorAcc = s.xorAcc := rfl
@[simp] theorem latchFrame_timeout (kind : LongOp) (fam : Family) (fr : List Byte) : (latchFrame kind fam fr s).timeout = s.timeout := rfl
@[simp] theorem latchFrame_timer (kind : LongOp) (fam : Family) (fr : List Byte) : (latchFrame kind fam fr s).timer = s.timer := rfl
@[simp] theorem latchFrame_acc (kind : LongOp) (fam : Family) (fr : List Byte) : (latchFrame kind fam fr s).acc = s.acc := rfl
@[simp] theorem latchFrame_rxLen (kind : LongOp) (fam : Family) (fr : List Byte) : (latchFrame kind fam fr s).rxLen = s.rxLen := rfl
@[simp] theorem latchFrame_rxCodeSh (kind : LongOp) (fam : Family) (fr : List Byte) : (latchFrame kind fam fr s).rxCodeSh = s.rxCodeSh := rfl
@[simp] theorem latchFrame_rxFlagSh (kind : LongOp) (fam : Family) (fr : List Byte) : (latchFrame kind fam fr s).rxFlagSh = s.rxFlagSh := rfl
@[simp] theorem latchFrame_rxIdx (kind : LongOp) (fam : Family) (fr : List Byte) : (latchFrame kind fam fr s).rxIdx = s.rxIdx := rfl
@[simp] theorem latchFrame_txFrame (kind : LongOp) (fam : Family) (fr : List Byte) : (latchFrame kind fam fr s).txFrame = fr := rfl
@[simp] theorem latchFrame_mem (kind : LongOp) (fam : Family) (fr : List Byte) : (latchFrame kind fam fr s).mem = s.mem := rfl
@[simp] theorem latchFrame_rxfifo (kind : LongOp) (fam : Family) (fr : List Byte) : (latchFrame kind fam fr s).rxfifo = s.rxfifo := rfl
@[simp] theorem latchFrame_wireTx (kind : LongOp) (fam : Family) (fr : List Byte) : (latchFrame kind fam fr s).wireTx = s.wireTx := rfl
@[simp] theorem latchFrame_bus (kind : LongOp) (fam : Family) (fr : List Byte) : (latchFrame kind fam fr s).bus = s.bus := rfl
@[simp] theorem latchFrame_draw (kind : LongOp) (fam : Family) (fr : List Byte) : (latchFrame kind fam fr s).draw = s.draw := rfl
@[simp] theorem latchFrame_sched (kind : LongOp) (fam : Family) (fr : List Byte) : (latchFrame kind fam fr s).sched = s.sched := rfl
@[simp] theorem latchFrame_envIdx (kind : LongOp) (fam : Family) (fr : List Byte) : (latchFrame kind fam fr s).envIdx = s.envIdx := rfl

/-! ### cmdError -/

@[simp] theorem cmdError_fsm (c : ErrCause) : (cmdError c s).fsm = s.fsm := rfl
@[simp] theorem cmdError_op (c : ErrCause) : (cmdError c s).op = s.op := rfl
@[simp] theorem cmdError_result (c : ErrCause) : (cmdError c s).result = s.result := rfl
@[simp] theorem cmdError_v2Supported (c : ErrCause) : (cmdError c s).v2Supported = s.v2Supported := rfl
@[simp] theorem cmdError_rxValid (c : ErrCause) : (cmdError c s).rxValid = s.rxValid := rfl
@[simp] theorem cmdError_txV2 (c : ErrCause) : (cmdError c s).txV2 = s.txV2 := rfl
@[simp] theorem cmdError_done (c : ErrCause) : (cmdError c s).done = s.done := rfl
@[simp] theorem cmdError_cmdErr (c : ErrCause) : (cmdError c s).cmdErr = true := rfl
@[simp] theorem cmdError_rxOverrun (c : ErrCause) : (cmdError c s).rxOverrun = s.rxOverrun := rfl
@[simp] theorem cmdError_errCause (c : ErrCause) : (cmdError c s).errCause = c := rfl
@[simp] theorem cmdError_doneIe (c : ErrCause) : (cmdError c s).doneIe = s.doneIe := rfl
@[simp] theorem cmdError_cmdErrIe (c : ErrCause) : (cmdError c s).cmdErrIe = s.cmdErrIe := rfl
@[simp] theorem cmdError_ovrIe (c : ErrCause) : (cmdError c s).ovrIe = s.ovrIe := rfl
@[simp] theorem cmdError_txCode (c : ErrCause) : (cmdError c s).txCode = s.txCode := rfl
@[simp] theorem cmdError_txSize (c : ErrCause) : (cmdError c s).txSize = s.txSize := rfl
@[simp] theorem cmdError_rxCode (c : ErrCause) : (cmdError c s).rxCode = s.rxCode := rfl
@[simp] theorem cmdError_rxSize (c : ErrCause) : (cmdError c s).rxSize = s.rxSize := rfl
@[simp] theorem cmdError_rxFlag (c : ErrCause) : (cmdError c s).rxFlag = s.rxFlag := rfl
@[simp] theorem cmdError_rxIsV2 (c : ErrCause) : (cmdError c s).rxIsV2 = s.rxIsV2 := rfl
@[simp] theorem cmdError_crcAcc (c : ErrCause) : (cmdError c s).crcAcc = s.crcAcc := rfl
@[simp] theorem cmdError_xorAcc (c : ErrCause) : (cmdError c s).xorAcc = s.xorAcc := rfl
@[simp] theorem cmdError_timeout (c : ErrCause) : (cmdError c s).timeout = s.timeout := rfl
@[simp] theorem cmdError_timer (c : ErrCause) : (cmdError c s).timer = s.timer := rfl
@[simp] theorem cmdError_acc (c : ErrCause) : (cmdError c s).acc = s.acc := rfl
@[simp] theorem cmdError_rxLen (c : ErrCause) : (cmdError c s).rxLen = s.rxLen := rfl
@[simp] theorem cmdError_rxCodeSh (c : ErrCause) : (cmdError c s).rxCodeSh = s.rxCodeSh := rfl
@[simp] theorem cmdError_rxFlagSh (c : ErrCause) : (cmdError c s).rxFlagSh = s.rxFlagSh := rfl
@[simp] theorem cmdError_rxIdx (c : ErrCause) : (cmdError c s).rxIdx = s.rxIdx := rfl
@[simp] theorem cmdError_txFrame (c : ErrCause) : (cmdError c s).txFrame = s.txFrame := rfl
@[simp] theorem cmdError_mem (c : ErrCause) : (cmdError c s).mem = s.mem := rfl
@[simp] theorem cmdError_rxfifo (c : ErrCause) : (cmdError c s).rxfifo = s.rxfifo := rfl
@[simp] theorem cmdError_wireTx (c : ErrCause) : (cmdError c s).wireTx = s.wireTx := rfl
@[simp] theorem cmdError_bus (c : ErrCause) : (cmdError c s).bus = s.bus := rfl
@[simp] theorem cmdError_draw (c : ErrCause) : (cmdError c s).draw = s.draw := rfl
@[simp] theorem cmdError_sched (c : ErrCause) : (cmdError c s).sched = s.sched := rfl
@[simp] theorem cmdError_envIdx (c : ErrCause) : (cmdError c s).envIdx = s.envIdx := rfl

/-! ### writeByte -/

@[simp] theorem writeByte_fsm (a : Nat) (b : Byte) : (writeByte s a b).fsm = s.fsm := rfl
@[simp] theorem writeByte_op (a : Nat) (b : Byte) : (writeByte s a b).op = s.op := rfl
@[simp] theorem writeByte_result (a : Nat) (b : Byte) : (writeByte s a b).result = s.result := rfl
@[simp] theorem writeByte_v2Supported (a : Nat) (b : Byte) : (writeByte s a b).v2Supported = s.v2Supported := rfl
@[simp] theorem writeByte_rxValid (a : Nat) (b : Byte) : (writeByte s a b).rxValid = s.rxValid := rfl
@[simp] theorem writeByte_txV2 (a : Nat) (b : Byte) : (writeByte s a b).txV2 = s.txV2 := rfl
@[simp] theorem writeByte_done (a : Nat) (b : Byte) : (writeByte s a b).done = s.done := rfl
@[simp] theorem writeByte_cmdErr (a : Nat) (b : Byte) : (writeByte s a b).cmdErr = s.cmdErr := rfl
@[simp] theorem writeByte_rxOverrun (a : Nat) (b : Byte) : (writeByte s a b).rxOverrun = s.rxOverrun := rfl
@[simp] theorem writeByte_errCause (a : Nat) (b : Byte) : (writeByte s a b).errCause = s.errCause := rfl
@[simp] theorem writeByte_doneIe (a : Nat) (b : Byte) : (writeByte s a b).doneIe = s.doneIe := rfl
@[simp] theorem writeByte_cmdErrIe (a : Nat) (b : Byte) : (writeByte s a b).cmdErrIe = s.cmdErrIe := rfl
@[simp] theorem writeByte_ovrIe (a : Nat) (b : Byte) : (writeByte s a b).ovrIe = s.ovrIe := rfl
@[simp] theorem writeByte_txCode (a : Nat) (b : Byte) : (writeByte s a b).txCode = s.txCode := rfl
@[simp] theorem writeByte_txSize (a : Nat) (b : Byte) : (writeByte s a b).txSize = s.txSize := rfl
@[simp] theorem writeByte_rxCode (a : Nat) (b : Byte) : (writeByte s a b).rxCode = s.rxCode := rfl
@[simp] theorem writeByte_rxSize (a : Nat) (b : Byte) : (writeByte s a b).rxSize = s.rxSize := rfl
@[simp] theorem writeByte_rxFlag (a : Nat) (b : Byte) : (writeByte s a b).rxFlag = s.rxFlag := rfl
@[simp] theorem writeByte_rxIsV2 (a : Nat) (b : Byte) : (writeByte s a b).rxIsV2 = s.rxIsV2 := rfl
@[simp] theorem writeByte_crcAcc (a : Nat) (b : Byte) : (writeByte s a b).crcAcc = s.crcAcc := rfl
@[simp] theorem writeByte_xorAcc (a : Nat) (b : Byte) : (writeByte s a b).xorAcc = s.xorAcc := rfl
@[simp] theorem writeByte_timeout (a : Nat) (b : Byte) : (writeByte s a b).timeout = s.timeout := rfl
@[simp] theorem writeByte_timer (a : Nat) (b : Byte) : (writeByte s a b).timer = s.timer := rfl
@[simp] theorem writeByte_acc (a : Nat) (b : Byte) : (writeByte s a b).acc = s.acc := rfl
@[simp] theorem writeByte_rxLen (a : Nat) (b : Byte) : (writeByte s a b).rxLen = s.rxLen := rfl
@[simp] theorem writeByte_rxCodeSh (a : Nat) (b : Byte) : (writeByte s a b).rxCodeSh = s.rxCodeSh := rfl
@[simp] theorem writeByte_rxFlagSh (a : Nat) (b : Byte) : (writeByte s a b).rxFlagSh = s.rxFlagSh := rfl
@[simp] theorem writeByte_rxIdx (a : Nat) (b : Byte) : (writeByte s a b).rxIdx = s.rxIdx := rfl
@[simp] theorem writeByte_txFrame (a : Nat) (b : Byte) : (writeByte s a b).txFrame = s.txFrame := rfl
@[simp] theorem writeByte_mem (a : Nat) (b : Byte) : (writeByte s a b).mem = s.mem.put a b := rfl
@[simp] theorem writeByte_rxfifo (a : Nat) (b : Byte) : (writeByte s a b).rxfifo = s.rxfifo := rfl
@[simp] theorem writeByte_wireTx (a : Nat) (b : Byte) : (writeByte s a b).wireTx = s.wireTx := rfl
@[simp] theorem writeByte_bus (a : Nat) (b : Byte) : (writeByte s a b).bus = s.bus := rfl
@[simp] theorem writeByte_draw (a : Nat) (b : Byte) : (writeByte s a b).draw = s.draw := rfl
@[simp] theorem writeByte_sched (a : Nat) (b : Byte) : (writeByte s a b).sched = s.sched := rfl
@[simp] theorem writeByte_envIdx (a : Nat) (b : Byte) : (writeByte s a b).envIdx = s.envIdx := rfl

/-! ### storePayload -/

@[simp] theorem storePayload_fsm (b : Byte) : (storePayload b s).fsm = s.fsm := rfl
@[simp] theorem storePayload_op (b : Byte) : (storePayload b s).op = s.op := rfl
@[simp] theorem storePayload_result (b : Byte) : (storePayload b s).result = s.result := rfl
@[simp] theorem storePayload_v2Supported (b : Byte) : (storePayload b s).v2Supported = s.v2Supported := rfl
@[simp] theorem storePayload_rxValid (b : Byte) : (storePayload b s).rxValid = s.rxValid := rfl
@[simp] theorem storePayload_txV2 (b : Byte) : (storePayload b s).txV2 = s.txV2 := rfl
@[simp] theorem storePayload_done (b : Byte) : (storePayload b s).done = s.done := rfl
@[simp] theorem storePayload_cmdErr (b : Byte) : (storePayload b s).cmdErr = s.cmdErr := rfl
@[simp] theorem storePayload_rxOverrun (b : Byte) : (storePayload b s).rxOverrun = s.rxOverrun := rfl
@[simp] theorem storePayload_errCause (b : Byte) : (storePayload b s).errCause = s.errCause := rfl
@[simp] theorem storePayload_doneIe (b : Byte) : (storePayload b s).doneIe = s.doneIe := rfl
@[simp] theorem storePayload_cmdErrIe (b : Byte) : (storePayload b s).cmdErrIe = s.cmdErrIe := rfl
@[simp] theorem storePayload_ovrIe (b : Byte) : (storePayload b s).ovrIe = s.ovrIe := rfl
@[simp] theorem storePayload_txCode (b : Byte) : (storePayload b s).txCode = s.txCode := rfl
@[simp] theorem storePayload_txSize (b : Byte) : (storePayload b s).txSize = s.txSize := rfl
@[simp] theorem storePayload_rxCode (b : Byte) : (storePayload b s).rxCode = s.rxCode := rfl
@[simp] theorem storePayload_rxSize (b : Byte) : (storePayload b s).rxSize = s.rxSize := rfl
@[simp] theorem storePayload_rxFlag (b : Byte) : (storePayload b s).rxFlag = s.rxFlag := rfl
@[simp] theorem storePayload_rxIsV2 (b : Byte) : (storePayload b s).rxIsV2 = s.rxIsV2 := rfl
@[simp] theorem storePayload_crcAcc (b : Byte) : (storePayload b s).crcAcc = s.crcAcc := rfl
@[simp] theorem storePayload_xorAcc (b : Byte) : (storePayload b s).xorAcc = s.xorAcc := rfl
@[simp] theorem storePayload_timeout (b : Byte) : (storePayload b s).timeout = s.timeout := rfl
@[simp] theorem storePayload_timer (b : Byte) : (storePayload b s).timer = s.timer := rfl
@[simp] theorem storePayload_acc (b : Byte) : (storePayload b s).acc = s.acc := rfl
@[simp] theorem storePayload_rxLen (b : Byte) : (storePayload b s).rxLen = s.rxLen := rfl
@[simp] theorem storePayload_rxCodeSh (b : Byte) : (storePayload b s).rxCodeSh = s.rxCodeSh := rfl
@[simp] theorem storePayload_rxFlagSh (b : Byte) : (storePayload b s).rxFlagSh = s.rxFlagSh := rfl
@[simp] theorem storePayload_rxIdx (b : Byte) : (storePayload b s).rxIdx = s.rxIdx + 1 := rfl
@[simp] theorem storePayload_txFrame (b : Byte) : (storePayload b s).txFrame = s.txFrame := rfl
@[simp] theorem storePayload_mem (b : Byte) : (storePayload b s).mem = s.mem.put (rxBase + s.rxIdx.toNat) b := rfl
@[simp] theorem storePayload_rxfifo (b : Byte) : (storePayload b s).rxfifo = s.rxfifo := rfl
@[simp] theorem storePayload_wireTx (b : Byte) : (storePayload b s).wireTx = s.wireTx := rfl
@[simp] theorem storePayload_bus (b : Byte) : (storePayload b s).bus = s.bus := rfl
@[simp] theorem storePayload_draw (b : Byte) : (storePayload b s).draw = s.draw := rfl
@[simp] theorem storePayload_sched (b : Byte) : (storePayload b s).sched = s.sched := rfl
@[simp] theorem storePayload_envIdx (b : Byte) : (storePayload b s).envIdx = s.envIdx := rfl

/-! ### writeStatus -/

@[simp] theorem writeStatus_fsm (v : Word) : (writeStatus v s).fsm = s.fsm := rfl
@[simp] theorem writeStatus_op (v : Word) : (writeStatus v s).op = s.op := rfl
@[simp] theorem writeStatus_result (v : Word) : (writeStatus v s).result = s.result := rfl
@[simp] theorem writeStatus_v2Supported (v : Word) : (writeStatus v s).v2Supported = s.v2Supported := rfl
@[simp] theorem writeStatus_rxValid (v : Word) : (writeStatus v s).rxValid = s.rxValid := rfl
@[simp] theorem writeStatus_txV2 (v : Word) : (writeStatus v s).txV2 = s.txV2 := rfl
@[simp] theorem writeStatus_done (v : Word) : (writeStatus v s).done = (s.done && !v.getLsbD 16) := rfl
@[simp] theorem writeStatus_cmdErr (v : Word) : (writeStatus v s).cmdErr = (s.cmdErr && !v.getLsbD 17) := rfl
@[simp] theorem writeStatus_rxOverrun (v : Word) : (writeStatus v s).rxOverrun = (s.rxOverrun && !v.getLsbD 18) := rfl
@[simp] theorem writeStatus_errCause (v : Word) : (writeStatus v s).errCause = s.errCause := rfl
@[simp] theorem writeStatus_doneIe (v : Word) : (writeStatus v s).doneIe = s.doneIe := rfl
@[simp] theorem writeStatus_cmdErrIe (v : Word) : (writeStatus v s).cmdErrIe = s.cmdErrIe := rfl
@[simp] theorem writeStatus_ovrIe (v : Word) : (writeStatus v s).ovrIe = s.ovrIe := rfl
@[simp] theorem writeStatus_txCode (v : Word) : (writeStatus v s).txCode = s.txCode := rfl
@[simp] theorem writeStatus_txSize (v : Word) : (writeStatus v s).txSize = s.txSize := rfl
@[simp] theorem writeStatus_rxCode (v : Word) : (writeStatus v s).rxCode = s.rxCode := rfl
@[simp] theorem writeStatus_rxSize (v : Word) : (writeStatus v s).rxSize = s.rxSize := rfl
@[simp] theorem writeStatus_rxFlag (v : Word) : (writeStatus v s).rxFlag = s.rxFlag := rfl
@[simp] theorem writeStatus_rxIsV2 (v : Word) : (writeStatus v s).rxIsV2 = s.rxIsV2 := rfl
@[simp] theorem writeStatus_crcAcc (v : Word) : (writeStatus v s).crcAcc = s.crcAcc := rfl
@[simp] theorem writeStatus_xorAcc (v : Word) : (writeStatus v s).xorAcc = s.xorAcc := rfl
@[simp] theorem writeStatus_timeout (v : Word) : (writeStatus v s).timeout = s.timeout := rfl
@[simp] theorem writeStatus_timer (v : Word) : (writeStatus v s).timer = s.timer := rfl
@[simp] theorem writeStatus_acc (v : Word) : (writeStatus v s).acc = s.acc := rfl
@[simp] theorem writeStatus_rxLen (v : Word) : (writeStatus v s).rxLen = s.rxLen := rfl
@[simp] theorem writeStatus_rxCodeSh (v : Word) : (writeStatus v s).rxCodeSh = s.rxCodeSh := rfl
@[simp] theorem writeStatus_rxFlagSh (v : Word) : (writeStatus v s).rxFlagSh = s.rxFlagSh := rfl
@[simp] theorem writeStatus_rxIdx (v : Word) : (writeStatus v s).rxIdx = s.rxIdx := rfl
@[simp] theorem writeStatus_txFrame (v : Word) : (writeStatus v s).txFrame = s.txFrame := rfl
@[simp] theorem writeStatus_mem (v : Word) : (writeStatus v s).mem = s.mem := rfl
@[simp] theorem writeStatus_rxfifo (v : Word) : (writeStatus v s).rxfifo = s.rxfifo := rfl
@[simp] theorem writeStatus_wireTx (v : Word) : (writeStatus v s).wireTx = s.wireTx := rfl
@[simp] theorem writeStatus_bus (v : Word) : (writeStatus v s).bus = s.bus := rfl
@[simp] theorem writeStatus_draw (v : Word) : (writeStatus v s).draw = s.draw := rfl
@[simp] theorem writeStatus_sched (v : Word) : (writeStatus v s).sched = s.sched := rfl
@[simp] theorem writeStatus_envIdx (v : Word) : (writeStatus v s).envIdx = s.envIdx := rfl

/-! ### writeIrqEn -/

@[simp] theorem writeIrqEn_fsm (v : Word) : (writeIrqEn v s).fsm = s.fsm := rfl
@[simp] theorem writeIrqEn_op (v : Word) : (writeIrqEn v s).op = s.op := rfl
@[simp] theorem writeIrqEn_result (v : Word) : (writeIrqEn v s).result = s.result := rfl
@[simp] theorem writeIrqEn_v2Supported (v : Word) : (writeIrqEn v s).v2Supported = s.v2Supported := rfl
@[simp] theorem writeIrqEn_rxValid (v : Word) : (writeIrqEn v s).rxValid = s.rxValid := rfl
@[simp] theorem writeIrqEn_txV2 (v : Word) : (writeIrqEn v s).txV2 = s.txV2 := rfl
@[simp] theorem writeIrqEn_done (v : Word) : (writeIrqEn v s).done = s.done := rfl
@[simp] theorem writeIrqEn_cmdErr (v : Word) : (writeIrqEn v s).cmdErr = s.cmdErr := rfl
@[simp] theorem writeIrqEn_rxOverrun (v : Word) : (writeIrqEn v s).rxOverrun = s.rxOverrun := rfl
@[simp] theorem writeIrqEn_errCause (v : Word) : (writeIrqEn v s).errCause = s.errCause := rfl
@[simp] theorem writeIrqEn_doneIe (v : Word) : (writeIrqEn v s).doneIe = v.getLsbD 16 := rfl
@[simp] theorem writeIrqEn_cmdErrIe (v : Word) : (writeIrqEn v s).cmdErrIe = v.getLsbD 17 := rfl
@[simp] theorem writeIrqEn_ovrIe (v : Word) : (writeIrqEn v s).ovrIe = v.getLsbD 18 := rfl
@[simp] theorem writeIrqEn_txCode (v : Word) : (writeIrqEn v s).txCode = s.txCode := rfl
@[simp] theorem writeIrqEn_txSize (v : Word) : (writeIrqEn v s).txSize = s.txSize := rfl
@[simp] theorem writeIrqEn_rxCode (v : Word) : (writeIrqEn v s).rxCode = s.rxCode := rfl
@[simp] theorem writeIrqEn_rxSize (v : Word) : (writeIrqEn v s).rxSize = s.rxSize := rfl
@[simp] theorem writeIrqEn_rxFlag (v : Word) : (writeIrqEn v s).rxFlag = s.rxFlag := rfl
@[simp] theorem writeIrqEn_rxIsV2 (v : Word) : (writeIrqEn v s).rxIsV2 = s.rxIsV2 := rfl
@[simp] theorem writeIrqEn_crcAcc (v : Word) : (writeIrqEn v s).crcAcc = s.crcAcc := rfl
@[simp] theorem writeIrqEn_xorAcc (v : Word) : (writeIrqEn v s).xorAcc = s.xorAcc := rfl
@[simp] theorem writeIrqEn_timeout (v : Word) : (writeIrqEn v s).timeout = s.timeout := rfl
@[simp] theorem writeIrqEn_timer (v : Word) : (writeIrqEn v s).timer = s.timer := rfl
@[simp] theorem writeIrqEn_acc (v : Word) : (writeIrqEn v s).acc = s.acc := rfl
@[simp] theorem writeIrqEn_rxLen (v : Word) : (writeIrqEn v s).rxLen = s.rxLen := rfl
@[simp] theorem writeIrqEn_rxCodeSh (v : Word) : (writeIrqEn v s).rxCodeSh = s.rxCodeSh := rfl
@[simp] theorem writeIrqEn_rxFlagSh (v : Word) : (writeIrqEn v s).rxFlagSh = s.rxFlagSh := rfl
@[simp] theorem writeIrqEn_rxIdx (v : Word) : (writeIrqEn v s).rxIdx = s.rxIdx := rfl
@[simp] theorem writeIrqEn_txFrame (v : Word) : (writeIrqEn v s).txFrame = s.txFrame := rfl
@[simp] theorem writeIrqEn_mem (v : Word) : (writeIrqEn v s).mem = s.mem := rfl
@[simp] theorem writeIrqEn_rxfifo (v : Word) : (writeIrqEn v s).rxfifo = s.rxfifo := rfl
@[simp] theorem writeIrqEn_wireTx (v : Word) : (writeIrqEn v s).wireTx = s.wireTx := rfl
@[simp] theorem writeIrqEn_bus (v : Word) : (writeIrqEn v s).bus = s.bus := rfl
@[simp] theorem writeIrqEn_draw (v : Word) : (writeIrqEn v s).draw = s.draw := rfl
@[simp] theorem writeIrqEn_sched (v : Word) : (writeIrqEn v s).sched = s.sched := rfl
@[simp] theorem writeIrqEn_envIdx (v : Word) : (writeIrqEn v s).envIdx = s.envIdx := rfl

/-! ### txFailEvent -/

@[simp] theorem txFailEvent_fsm : (txFailEvent s).fsm = .idle := rfl
@[simp] theorem txFailEvent_op : (txFailEvent s).op = .none := rfl
@[simp] theorem txFailEvent_result : (txFailEvent s).result = .transportError := rfl
@[simp] theorem txFailEvent_v2Supported : (txFailEvent s).v2Supported = (s.v2Supported || (decide (s.op = .negotiate) && decide (Result.transportError = .rxOkV2))) := rfl
@[simp] theorem txFailEvent_rxValid : (txFailEvent s).rxValid = s.rxValid := rfl
@[simp] theorem txFailEvent_txV2 : (txFailEvent s).txV2 = s.txV2 := rfl
@[simp] theorem txFailEvent_done : (txFailEvent s).done = true := rfl
@[simp] theorem txFailEvent_cmdErr : (txFailEvent s).cmdErr = s.cmdErr := rfl
@[simp] theorem txFailEvent_rxOverrun : (txFailEvent s).rxOverrun = s.rxOverrun := rfl
@[simp] theorem txFailEvent_errCause : (txFailEvent s).errCause = s.errCause := rfl
@[simp] theorem txFailEvent_doneIe : (txFailEvent s).doneIe = s.doneIe := rfl
@[simp] theorem txFailEvent_cmdErrIe : (txFailEvent s).cmdErrIe = s.cmdErrIe := rfl
@[simp] theorem txFailEvent_ovrIe : (txFailEvent s).ovrIe = s.ovrIe := rfl
@[simp] theorem txFailEvent_txCode : (txFailEvent s).txCode = s.txCode := rfl
@[simp] theorem txFailEvent_txSize : (txFailEvent s).txSize = s.txSize := rfl
@[simp] theorem txFailEvent_rxCode : (txFailEvent s).rxCode = s.rxCode := rfl
@[simp] theorem txFailEvent_rxSize : (txFailEvent s).rxSize = s.rxSize := rfl
@[simp] theorem txFailEvent_rxFlag : (txFailEvent s).rxFlag = s.rxFlag := rfl
@[simp] theorem txFailEvent_rxIsV2 : (txFailEvent s).rxIsV2 = s.rxIsV2 := rfl
@[simp] theorem txFailEvent_crcAcc : (txFailEvent s).crcAcc = s.crcAcc := rfl
@[simp] theorem txFailEvent_xorAcc : (txFailEvent s).xorAcc = s.xorAcc := rfl
@[simp] theorem txFailEvent_timeout : (txFailEvent s).timeout = s.timeout := rfl
@[simp] theorem txFailEvent_timer : (txFailEvent s).timer = s.timer := rfl
@[simp] theorem txFailEvent_acc : (txFailEvent s).acc = s.acc := rfl
@[simp] theorem txFailEvent_rxLen : (txFailEvent s).rxLen = s.rxLen := rfl
@[simp] theorem txFailEvent_rxCodeSh : (txFailEvent s).rxCodeSh = s.rxCodeSh := rfl
@[simp] theorem txFailEvent_rxFlagSh : (txFailEvent s).rxFlagSh = s.rxFlagSh := rfl
@[simp] theorem txFailEvent_rxIdx : (txFailEvent s).rxIdx = s.rxIdx := rfl
@[simp] theorem txFailEvent_txFrame : (txFailEvent s).txFrame = [] := rfl
@[simp] theorem txFailEvent_mem : (txFailEvent s).mem = s.mem := rfl
@[simp] theorem txFailEvent_rxfifo : (txFailEvent s).rxfifo = s.rxfifo := rfl
@[simp] theorem txFailEvent_wireTx : (txFailEvent s).wireTx = s.wireTx := rfl
@[simp] theorem txFailEvent_bus : (txFailEvent s).bus = s.bus := rfl
@[simp] theorem txFailEvent_draw : (txFailEvent s).draw = s.draw := rfl
@[simp] theorem txFailEvent_sched : (txFailEvent s).sched = s.sched := rfl
@[simp] theorem txFailEvent_envIdx : (txFailEvent s).envIdx = s.envIdx := rfl

/-! ### resetEvent -/

@[simp] theorem resetEvent_fsm : (resetEvent s).fsm = State.reset.fsm := rfl
@[simp] theorem resetEvent_op : (resetEvent s).op = State.reset.op := rfl
@[simp] theorem resetEvent_result : (resetEvent s).result = State.reset.result := rfl
@[simp] theorem resetEvent_v2Supported : (resetEvent s).v2Supported = State.reset.v2Supported := rfl
@[simp] theorem resetEvent_rxValid : (resetEvent s).rxValid = State.reset.rxValid := rfl
@[simp] theorem resetEvent_txV2 : (resetEvent s).txV2 = State.reset.txV2 := rfl
@[simp] theorem resetEvent_done : (resetEvent s).done = State.reset.done := rfl
@[simp] theorem resetEvent_cmdErr : (resetEvent s).cmdErr = State.reset.cmdErr := rfl
@[simp] theorem resetEvent_rxOverrun : (resetEvent s).rxOverrun = State.reset.rxOverrun := rfl
@[simp] theorem resetEvent_errCause : (resetEvent s).errCause = State.reset.errCause := rfl
@[simp] theorem resetEvent_doneIe : (resetEvent s).doneIe = State.reset.doneIe := rfl
@[simp] theorem resetEvent_cmdErrIe : (resetEvent s).cmdErrIe = State.reset.cmdErrIe := rfl
@[simp] theorem resetEvent_ovrIe : (resetEvent s).ovrIe = State.reset.ovrIe := rfl
@[simp] theorem resetEvent_txCode : (resetEvent s).txCode = State.reset.txCode := rfl
@[simp] theorem resetEvent_txSize : (resetEvent s).txSize = State.reset.txSize := rfl
@[simp] theorem resetEvent_rxCode : (resetEvent s).rxCode = State.reset.rxCode := rfl
@[simp] theorem resetEvent_rxSize : (resetEvent s).rxSize = State.reset.rxSize := rfl
@[simp] theorem resetEvent_rxFlag : (resetEvent s).rxFlag = State.reset.rxFlag := rfl
@[simp] theorem resetEvent_rxIsV2 : (resetEvent s).rxIsV2 = State.reset.rxIsV2 := rfl
@[simp] theorem resetEvent_crcAcc : (resetEvent s).crcAcc = State.reset.crcAcc := rfl
@[simp] theorem resetEvent_xorAcc : (resetEvent s).xorAcc = State.reset.xorAcc := rfl
@[simp] theorem resetEvent_timeout : (resetEvent s).timeout = State.reset.timeout := rfl
@[simp] theorem resetEvent_timer : (resetEvent s).timer = State.reset.timer := rfl
@[simp] theorem resetEvent_acc : (resetEvent s).acc = State.reset.acc := rfl
@[simp] theorem resetEvent_rxLen : (resetEvent s).rxLen = State.reset.rxLen := rfl
@[simp] theorem resetEvent_rxCodeSh : (resetEvent s).rxCodeSh = State.reset.rxCodeSh := rfl
@[simp] theorem resetEvent_rxFlagSh : (resetEvent s).rxFlagSh = State.reset.rxFlagSh := rfl
@[simp] theorem resetEvent_rxIdx : (resetEvent s).rxIdx = State.reset.rxIdx := rfl
@[simp] theorem resetEvent_txFrame : (resetEvent s).txFrame = State.reset.txFrame := rfl
@[simp] theorem resetEvent_mem : (resetEvent s).mem = State.reset.mem := rfl
@[simp] theorem resetEvent_rxfifo : (resetEvent s).rxfifo = State.reset.rxfifo := rfl
@[simp] theorem resetEvent_wireTx : (resetEvent s).wireTx = s.wireTx := rfl
@[simp] theorem resetEvent_bus : (resetEvent s).bus = s.bus := rfl
@[simp] theorem resetEvent_draw : (resetEvent s).draw = s.draw + 1 := rfl
@[simp] theorem resetEvent_sched : (resetEvent s).sched = s.sched := rfl
@[simp] theorem resetEvent_envIdx : (resetEvent s).envIdx = s.envIdx := rfl

end Sys2Proof.Machine
end

