-- ==== Sys2Proof/Laws/Memory.lean ====
section
/-! SUPPORT. The laws of the buffers' memory: a read after a write, and the canonical form every operation keeps. -/

namespace Sys2Proof.Machine

theorem Memory.get?_put_same (m : Memory) (a : Nat) (b : Byte) : (m.put a b).get? a = some b := by
  induction m with
  | nil => simp [Memory.put, Memory.get?]
  | cons c rest ih =>
    simp only [Memory.put]
    split
    · simp [Memory.get?]
    · split
      · simp [Memory.get?]
      · have h : c.1 ≠ a := by omega
        simp [Memory.get?, h, ih]

theorem Memory.get?_put_other (m : Memory) {a a' : Nat} (b : Byte) (h : a' ≠ a) :
    (m.put a b).get? a' = m.get? a' := by
  have h' : a ≠ a' := fun e => h e.symm
  induction m with
  | nil => simp [Memory.put, Memory.get?, h']
  | cons c rest ih =>
    simp only [Memory.put]
    split
    · simp [Memory.get?, h']
    · split
      · next e => subst e; simp [Memory.get?, h']
      · simp only [Memory.get?, ih]

/-- The offsets listed after a write: the old ones and the written one. -/
theorem Memory.mem_put {m : Memory} {a : Nat} {b : Byte} {c : Host.Cell} (h : c ∈ m.put a b) : c = (a, b) ∨ c ∈ m := by
  induction m with
  | nil => simpa [Memory.put] using h
  | cons d rest ih =>
    simp only [Memory.put] at h
    split at h
    · simpa using h
    · split at h
      · rcases List.mem_cons.mp h with h | h
        · exact .inl h
        · exact .inr (List.mem_cons_of_mem _ h)
      · rcases List.mem_cons.mp h with h | h
        · exact .inr (h ▸ List.mem_cons_self)
        · exact (ih h).imp id (List.mem_cons_of_mem _)

theorem Memory.put_sorted (m : Memory) (a : Nat) (b : Byte) (h : m.Pairwise (fun c d => c.1 < d.1)) :
    (m.put a b).Pairwise (fun c d => c.1 < d.1) := by
  induction m with
  | nil => simp [Memory.put]
  | cons c rest ih =>
    have hc := List.pairwise_cons.mp h
    simp only [Memory.put]
    split
    · next hlt =>
      refine List.pairwise_cons.mpr ⟨fun d hd => ?_, h⟩
      rcases List.mem_cons.mp hd with rfl | hd
      · exact hlt
      · exact lt_trans hlt (hc.1 d hd)
    · split
      · next heq => exact List.pairwise_cons.mpr ⟨fun d hd => heq ▸ hc.1 d hd, hc.2⟩
      · refine List.pairwise_cons.mpr ⟨fun d hd => ?_, ih hc.2⟩
        rcases Memory.mem_put hd with rfl | hd
        · show c.1 < a
          omega
        · exact hc.1 d hd

/-- A write to a buffer byte keeps the canonical form. -/
theorem Memory.put_wf {m : Memory} {a : Nat} (b : Byte) (h : m.wf) (ha : IsBufAddr a) : (m.put a b).wf := by
  refine ⟨Memory.put_sorted m a b h.1, fun c hc => ?_⟩
  rcases Memory.mem_put hc with rfl | hc
  · exact ha
  · exact h.2 c hc

/-- The later of two writes of one offset is the one that counts. -/
theorem Memory.put_put_same (m : Memory) (a : Nat) (b b' : Byte) : (m.put a b).put a b' = m.put a b' := by
  induction m with
  | nil => simp [Memory.put]
  | cons c rest ih =>
    by_cases h1 : a < c.1
    · simp [Memory.put, h1]
    · by_cases h2 : a = c.1
      · subst h2; simp [Memory.put]
      · simp [Memory.put, h1, h2, ih]

/-- Writes of different offsets may be exchanged: the form is canonical. -/
theorem Memory.put_put_comm (m : Memory) {a a' : Nat} (b b' : Byte) (h : a ≠ a') :
    (m.put a b).put a' b' = (m.put a' b').put a b := by
  induction m with
  | nil =>
    rcases Nat.lt_or_gt_of_ne h with h | h
    · simp [Memory.put, h, Nat.not_lt_of_gt h, Nat.ne_of_gt h]
    · simp [Memory.put, h, Nat.not_lt_of_gt h, Nat.ne_of_gt h]
  | cons c rest ih =>
    rcases Nat.lt_trichotomy a c.1 with h1 | h1 | h1 <;> rcases Nat.lt_trichotomy a' c.1 with h2 | h2 | h2 <;>
      rcases Nat.lt_or_gt_of_ne h with h3 | h3 <;>
      first
        | omega
        | simp [Memory.put, Nat.not_lt_of_gt, Nat.ne_of_gt, *]

theorem readByte_writeByte_same (s : State) (a : Nat) (b : Byte) : readByte (writeByte s a b) a = b := by
  simp [readByte, Memory.get?_put_same]

theorem readByte_writeByte_other (s : State) {a a' : Nat} (b : Byte) (h : a' ≠ a) :
    readByte (writeByte s a b) a' = readByte s a' := by
  simp [readByte, Memory.get?_put_other _ b h]

/-- A byte read depends on the memory and the draw only. -/
theorem readByte_congr {s t : State} (hm : t.mem = s.mem) (hd : t.draw = s.draw) (a : Nat) :
    readByte t a = readByte s a := by
  simp [readByte, hm, hd]

theorem bufBytes_congr {s t : State} {a n : Nat} (h : ∀ i, i < n → readByte t (a + i) = readByte s (a + i)) :
    bufBytes t a n = bufBytes s a n :=
  List.map_congr_left fun i hi => h i (List.mem_range.mp hi)

@[simp] theorem bufBytes_length (s : State) (a n : Nat) : (bufBytes s a n).length = n := by simp [bufBytes]

theorem bufBytes_succ (s : State) (a n : Nat) : bufBytes s a (n + 1) = bufBytes s a n ++ [readByte s (a + n)] := by
  simp [bufBytes, List.range_succ]

theorem readByte_storePayload_same (b : Byte) (s : State) :
    readByte (storePayload b s) (rxBase + s.rxIdx.toNat) = b :=
  (readByte_congr rfl rfl _).trans (readByte_writeByte_same s _ b)

theorem readByte_storePayload_other (b : Byte) (s : State) {a : Nat} (h : a ≠ rxBase + s.rxIdx.toNat) :
    readByte (storePayload b s) a = readByte s a :=
  (readByte_congr rfl rfl _).trans (readByte_writeByte_other s b h)

/-- A wide write changes the memory only. -/
theorem memWrite_eq (s : State) (a : Nat) (v : Word) (n : Nat) :
    memWrite s a v n = { s with mem := (memWrite s a v n).mem } := by
  induction n with
  | zero => rfl
  | succ n ih => rw [memWrite, ih]; rfl

theorem readByte_memWrite_outside (s : State) (a : Nat) (v : Word) (n a' : Nat) (h : a' < a ∨ a + n ≤ a') :
    readByte (memWrite s a v n) a' = readByte s a' := by
  induction n with
  | zero => rfl
  | succ n ih =>
    rw [memWrite, readByte_writeByte_other _ _ (by omega)]
    exact ih (by omega)

/-- The byte a wide write stores at each of its offsets (R55). -/
theorem readByte_memWrite_inside (s : State) (a : Nat) (v : Word) (n i : Nat) (h : i < n) :
    readByte (memWrite s a v n) (a + i) = v.extractLsb' (8 * i) 8 := by
  induction n with
  | zero => omega
  | succ n ih =>
    rw [memWrite]
    rcases Nat.lt_succ_iff_lt_or_eq.mp h with h | rfl
    · rw [readByte_writeByte_other _ _ (by omega)]
      exact ih h
    · exact readByte_writeByte_same _ _ _

/-- A wide write inside a buffer keeps the canonical form. -/
theorem memWrite_wf (s : State) (a : Nat) (v : Word) (n : Nat) (h : s.mem.wf) (ha : ∀ i, i < n → IsBufAddr (a + i)) :
    (memWrite s a v n).mem.wf := by
  induction n with
  | zero => exact h
  | succ n ih => exact Memory.put_wf _ (ih fun i hi => ha i (by omega)) (ha n (by omega))

/-- Storing a payload byte in range keeps the canonical form (R164). -/
theorem storePayload_wf (b : Byte) (s : State) (h : s.mem.wf) (hi : s.rxIdx.toNat < bufLen) :
    (storePayload b s).mem.wf :=
  Memory.put_wf b h (.inr ⟨by omega, by omega⟩)

theorem reset_mem_wf : State.reset.mem.wf := by simp [State.reset, Memory.wf]

end Sys2Proof.Machine
end

