-- ==== Sys2Proof/Laws/Ops.lean ====
section
/-! SUPPORT. One lemma per shared operation that says once everything it can do; proofs cite these and do not unfold the
operation. -/

namespace Sys2Proof.Machine

/-! ## Sending -/

/-- `startSend` finishes with the refusal of `build`, or latches the frame it built (R127). -/
theorem startSend_cases (kind : LongOp) (fam : Family) (s : State) :
    (∃ r, build fam s = .error r ∧ startSend kind fam s = finish r s) ∨
      ∃ f, build fam s = .ok f ∧ startSend kind fam s = latchFrame kind fam f s := by
  cases h : build fam s with
  | error r => exact .inl ⟨r, rfl, by simp [startSend, h]⟩
  | ok f => exact .inr ⟨f, rfl, by simp [startSend, h]⟩

/-- `build` reads the code, the length and the buffers only (R125). -/
theorem build_congr {s t : State} (fam : Family) (hc : t.txCode = s.txCode) (hs : t.txSize = s.txSize)
    (hb : ∀ i, i < s.txSize.toNat → s.txSize.toNat ≤ bufLen → readByte t (txBase + i) = readByte s (txBase + i)) :
    build fam t = build fam s := by
  have key : s.txSize.toNat ≤ 65535 → txPayload t s.txSize.toNat = txPayload s s.txSize.toNat := fun h =>
    bufBytes_congr fun i hi => hb i hi h
  cases fam with
  | v1 =>
    simp only [build, hc, hs]
    split
    · rfl
    · rw [key (by omega)]
  | v2 =>
    simp only [build, hc, hs]
    split
    · rfl
    · rw [key (by omega)]

theorem encV1_length (k : Byte) (p : List Byte) : (encV1 k p).length = 6 + p.length := by
  simp [encV1, encode]; omega

theorem encV2_length (k : BitVec 16) (p : List Byte) : (encV2 k p).length = 9 + p.length := by
  simp [encV2, encode, v2Body]; omega

/-- What `build` can answer (R125). -/
theorem build_cases (fam : Family) (s : State) :
    (∃ r, build fam s = .error r ∧ (r = .payloadTooLarge ∨ r = .codeTooLarge)) ∨
      ∃ f, build fam s = .ok f ∧ s.txSize.toNat ≤ 65535 ∧ f.length ≤ 65544 ∧
        (f = encV1 (lo8 s.txCode) (txPayload s s.txSize.toNat) ∨ f = encV2 s.txCode (txPayload s s.txSize.toNat)) := by
  cases fam with
  | v1 =>
    simp only [build]
    split
    · exact .inl ⟨_, rfl, .inl rfl⟩
    · split
      · exact .inl ⟨_, rfl, .inr rfl⟩
      · refine .inr ⟨_, rfl, by omega, ?_, .inl rfl⟩
        rw [encV1_length, txPayload, bufBytes_length]; omega
  | v2 =>
    simp only [build]
    split
    · exact .inl ⟨_, rfl, .inl rfl⟩
    · refine .inr ⟨_, rfl, by omega, ?_, .inr rfl⟩
      rw [encV2_length, txPayload, bufBytes_length]; omega

/-! ## Guards -/

/-- A command that needs IDLE runs there and is refused elsewhere (R203). -/
theorem whenIdle_cases (run : State → State) (s : State) :
    (s.fsm = .idle ∧ whenIdle run s = run s) ∨ (s.fsm ≠ .idle ∧ whenIdle run s = cmdError .busy s) := by
  by_cases h : s.fsm = .idle
  · exact .inl ⟨h, if_pos h⟩
  · exact .inr ⟨h, if_neg h⟩

/-- A header's effect happens where the scan stands at its third byte, else nothing does. -/
theorem atHeader_cases (f : Fsm) (run : State → State) (s : State) :
    (s.fsm = f ∧ atHeader f run s = run s) ∨ (s.fsm ≠ f ∧ atHeader f run s = s) := by
  by_cases h : s.fsm = f
  · exact .inl ⟨h, if_pos h⟩
  · exact .inr ⟨h, if_neg h⟩

theorem Fsm.isRx_iff (f : Fsm) : f.isRx = true ↔ f ≠ .idle ∧ f ≠ .sending := by cases f <;> decide

/-! ## Commands -/

/-- Every instruction completes in every state: none faults, none is refused. -/
theorem exec_completes (i : Instr) (s : State) : ∃ t, exec i s = .next t := by
  cases i <;> exact ⟨_, rfl⟩

/-- What an instruction does when it completes: nothing; its own accumulator; a refusal with BUSY; the start of an
operation in IDLE; the end of a receive phase; an empty FIFO; or, where a header's third byte stands, the header's
effect. -/
theorem exec_cases {i : Instr} {s t : State} (h : exec i s = .next t) :
    t = s ∨ t = cmdError .busy s ∨
    (i = .crcClr ∧ t = { s with crcAcc := 0x00#8 }) ∨
    (∃ d, i = .crcByte d ∧ t = { s with crcAcc := crc8Step s.crcAcc d }) ∨
    (i = .xorClr ∧ t = { s with xorAcc := 0x00#8 }) ∨
    (∃ d, i = .xorByte d ∧ t = { s with xorAcc := s.xorAcc ^^^ d }) ∨
    (s.fsm = .idle ∧ ∃ kind fam, (kind = .send ∨ kind = .transact ∨ kind = .negotiate) ∧
      t = startSend kind fam (opBegin s)) ∨
    (s.fsm = .idle ∧ i = .receive ∧ t = rxBegin { opBegin s with op := .receive }) ∨
    (s.fsm.isRx = true ∧ i = .abort ∧ t = finish .aborted s) ∨
    (s.fsm = .idle ∧ i = .flushRx ∧ t = { s with rxfifo := [] }) ∨
    ((s.fsm = .gotM ∨ s.fsm = .gotX) ∧ i.port = .wire ∧
      (t = { s with fsm := .scan } ∨ t = { s with acc := 0, fsm := .v1Size } ∨ t = { s with acc := 0, fsm := .v2Flag } ∨
        t = finish .rejected s)) := by
  cases i with
  | nop => cases h; exact .inl rfl
  | crcClr => cases h; exact .inr (.inr (.inl ⟨rfl, rfl⟩))
  | crcByte d => cases h; exact .inr (.inr (.inr (.inl ⟨d, rfl, rfl⟩)))
  | xorClr => cases h; exact .inr (.inr (.inr (.inr (.inl ⟨rfl, rfl⟩))))
  | xorByte d => cases h; exact .inr (.inr (.inr (.inr (.inr (.inl ⟨d, rfl, rfl⟩)))))
  | send f =>
    cases h
    rcases whenIdle_cases (fun s => startSend .send (chooseFamily s f) (opBegin s)) s with ⟨hi, e⟩ | ⟨_, e⟩
    · exact .inr (.inr (.inr (.inr (.inr (.inr (.inl ⟨hi, .send, _, .inl rfl, e⟩))))))
    · exact .inr (.inl e)
  | receive =>
    cases h
    rcases whenIdle_cases (fun s => rxBegin { opBegin s with op := .receive }) s with ⟨hi, e⟩ | ⟨_, e⟩
    · exact .inr (.inr (.inr (.inr (.inr (.inr (.inr (.inl ⟨hi, rfl, e⟩)))))))
    · exact .inr (.inl e)
  | transact f =>
    cases h
    rcases whenIdle_cases (fun s => startSend .transact (chooseFamily s f) (opBegin s)) s with ⟨hi, e⟩ | ⟨_, e⟩
    · exact .inr (.inr (.inr (.inr (.inr (.inr (.inl ⟨hi, .transact, _, .inr (.inl rfl), e⟩))))))
    · exact .inr (.inl e)
  | negotiate =>
    cases h
    rcases whenIdle_cases (fun s => startSend .negotiate .v2 (opBegin s)) s with ⟨hi, e⟩ | ⟨_, e⟩
    · exact .inr (.inr (.inr (.inr (.inr (.inr (.inl ⟨hi, .negotiate, _, .inr (.inr rfl), e⟩))))))
    · exact .inr (.inl e)
  | abort =>
    simp only [exec, execAbort] at h
    cases h
    split
    · next hr => exact .inr (.inr (.inr (.inr (.inr (.inr (.inr (.inr (.inl ⟨hr, rfl, rfl⟩))))))))
    · split
      · exact .inr (.inl rfl)
      · exact .inl rfl
  | flushRx =>
    cases h
    rcases whenIdle_cases (fun s => { s with rxfifo := [] }) s with ⟨hi, e⟩ | ⟨_, e⟩
    · exact .inr (.inr (.inr (.inr (.inr (.inr (.inr (.inr (.inr (.inl ⟨hi, rfl, e⟩)))))))))
    · exact .inr (.inl e)
  | hdrV1Request =>
    cases h
    rcases atHeader_cases .gotM (fun s => { s with fsm := .scan }) s with ⟨hi, e⟩ | ⟨_, e⟩
    · exact .inr (.inr (.inr (.inr (.inr (.inr (.inr (.inr (.inr (.inr ⟨.inl hi, rfl, .inl e⟩)))))))))
    · exact .inl e
  | hdrV2Request =>
    cases h
    rcases atHeader_cases .gotX (fun s => { s with fsm := .scan }) s with ⟨hi, e⟩ | ⟨_, e⟩
    · exact .inr (.inr (.inr (.inr (.inr (.inr (.inr (.inr (.inr (.inr ⟨.inr hi, rfl, .inl e⟩)))))))))
    · exact .inl e
  | hdrV1Response =>
    cases h
    rcases atHeader_cases .gotM (fun s => { s with acc := 0, fsm := .v1Size }) s with ⟨hi, e⟩ | ⟨_, e⟩
    · exact .inr (.inr (.inr (.inr (.inr (.inr (.inr (.inr (.inr (.inr ⟨.inl hi, rfl, .inr (.inl e)⟩)))))))))
    · exact .inl e
  | hdrV1Error =>
    cases h
    rcases atHeader_cases .gotM (finish .rejected) s with ⟨hi, e⟩ | ⟨_, e⟩
    · exact .inr (.inr (.inr (.inr (.inr (.inr (.inr (.inr (.inr (.inr ⟨.inl hi, rfl, .inr (.inr (.inr e))⟩)))))))))
    · exact .inl e
  | hdrV2Response =>
    cases h
    rcases atHeader_cases .gotX (fun s => { s with acc := 0, fsm := .v2Flag }) s with ⟨hi, e⟩ | ⟨_, e⟩
    · exact .inr (.inr (.inr (.inr (.inr (.inr (.inr (.inr (.inr (.inr ⟨.inr hi, rfl, .inr (.inr (.inl e))⟩)))))))))
    · exact .inl e

/-- The decoder of command words refuses with ILLEGAL_OP or RESERVED_FIELD only (R84). -/
theorem decodeCmd_error {w : Word} {e : DecodeError} (h : decodeCmd w = .error e) :
    e = .illegalOp ∨ e = .reservedField := by
  simp only [decodeCmd] at h
  split at h
  · exact .inl (Except.error.inj h).symm
  · split at h
    · cases h
    · exact .inr (Except.error.inj h).symm

/-- A `CMD` write performs the instruction or refuses the command (R80, R201). -/
theorem issueCommand_cases (w : Word) (s : State) :
    (∃ i, decodeCmd w = .ok i ∧ issueCommand w s = exec i s) ∨
      ∃ c, (c = .illegalOp ∨ c = .reservedField) ∧ issueCommand w s = .next (cmdError c s) := by
  cases h : decodeCmd w with
  | ok i => exact .inl ⟨i, rfl, by simp [issueCommand, h]⟩
  | error e =>
    right
    rcases decodeCmd_error h with rfl | rfl
    · exact ⟨_, .inl rfl, by simp [issueCommand, h, refusalCause]⟩
    · exact ⟨_, .inr rfl, by simp [issueCommand, h, refusalCause]⟩

/-- The third byte of a header runs the header's instruction or resyncs (R149, R150). -/
theorem rxHeader_cases (b1 b2 : Byte) (s : State) :
    (∃ i, decode .wire [0x24#8, b1, b2] = .ok i ∧ rxHeader b1 b2 s = exec i s) ∨
      rxHeader b1 b2 s = .next { s with fsm := .scan } := by
  cases h : decode .wire [0x24#8, b1, b2] with
  | ok i => exact .inl ⟨i, rfl, by simp [rxHeader, h]⟩
  | error e => exact .inr (by simp [rxHeader, h])

/-! ## The window -/

/-- A write that passes its checks reaches a writable register or bytes of TX_BUF, and in SENDING neither `TX_CODE`,
`TX_SIZE` nor TX_BUF (R52-R58). -/
theorem checkWrite_ok {s : State} {off n : Nat} {t : Target} (h : checkWrite s off n = .ok t) :
    (∃ r, t = .reg r ∧ r.readOnly = false ∧ ¬(r.lockedInSending = true ∧ s.fsm = .sending)) ∨
      (t = .txb off ∧ txBase ≤ off ∧ off + n ≤ txBase + bufLen ∧ s.fsm ≠ .sending) := by
  unfold checkWrite at h
  split at h
  · cases h
  · split at h
    · cases h
    · split at h
      · cases h
      · split at h
        · cases h
        · next r _ hro hlk =>
          exact .inl ⟨r, (Except.ok.inj h).symm, by simpa using hro, hlk⟩
  · next hl =>
    split at h
    · cases h
    · split at h
      · cases h
      · next hlen hs =>
        have hreg : txBase ≤ off := by
          unfold locate regionAt at hl
          split at hl
          · cases hl
          · next hr =>
            split at hl
            · cases hl
            · cases Except.ok.inj hl
              split at hr
              · cases hr
              · split at hr
                · next hx => exact hx.1
                · split at hr <;> cases hr
        refine .inr ⟨(Except.ok.inj h).symm, hreg, ?_, hs⟩
        unfold bufLen txBase at *
        omega
  · split at h <;> cases h

/-! ## The step -/

/-- The state an event meets differs from the step's state in the schedule and the count of free events only. -/
theorem nextEvent_state (s : State) :
    ∃ q n, (nextEvent s).2 = { s with sched := q, envIdx := n } := by
  unfold nextEvent
  split
  · exact ⟨_, s.envIdx, rfl⟩
  · next h => exact ⟨s.sched, _, rfl⟩

/-- One step: an event that is not enabled does nothing, an enabled one is performed. -/
theorem step_cases (s : State) :
    ∃ e q n, (enabled e { s with sched := q, envIdx := n } = false ∧ step s = .next { s with sched := q, envIdx := n }) ∨
      (enabled e { s with sched := q, envIdx := n } = true ∧ step s = perform e { s with sched := q, envIdx := n }) := by
  obtain ⟨q, n, h⟩ := nextEvent_state s
  refine ⟨(nextEvent s).1, q, n, ?_⟩
  cases he : enabled (nextEvent s).1 { s with sched := q, envIdx := n } with
  | false => exact .inl ⟨rfl, by simp [step, h, runEvent, he]⟩
  | true => exact .inr ⟨rfl, by simp [step, h, runEvent, he]⟩

/-- A write that reaches `CMD` is the 4-byte write of its offset (R53, R80). -/
theorem checkWrite_cmd {s : State} {off : Word} {n : AccessSize} (h : checkWrite s off.toNat n.bytes = .ok (.reg .cmd)) :
    off = cmdOffset ∧ n = .word := by
  unfold checkWrite at h
  split at h
  · cases h
  · split at h
    · cases h
    · next r hr =>
      have hc : r = .cmd := by
        split at h
        · cases h
        · split at h
          · cases h
          · exact Target.reg.inj (Except.ok.inj h)
      subst hc
      unfold locateReg at hr
      split at hr
      · cases hr
      · next hn =>
        split at hr
        · cases hr
        · next r' hreg =>
          cases Except.ok.inj hr
          refine ⟨BitVec.eq_of_toNat_eq ?_, by cases n <;> first | rfl | exact absurd (by decide) hn⟩
          unfold regAt at hreg
          split at hreg <;> first | assumption | cases hreg
  · split at h
    · cases h
    · split at h <;> cases h
  · split at h <;> cases h

/-- What an event does when it completes (R11): a host access answers, writes a register, writes TX_BUF, or issues a
command; the other events do what their definitions say. -/
theorem perform_cases {e : Event} {s t : State} (h : perform e s = .next t) :
    (((∃ off n, e = .hostRead off n) ∨ ∃ off n v, e = .hostWrite off n v) ∧ ∃ a, t = { s with bus := some a }) ∨
    (∃ off n v r, e = .hostWrite off n v ∧ r ≠ .cmd ∧ r.readOnly = false ∧
      ¬(r.lockedInSending = true ∧ s.fsm = .sending) ∧ t = writeReg r v { s with bus := some .writeOkay }) ∨
    (∃ off n v, e = .hostWrite off n v ∧ txBase ≤ off.toNat ∧ off.toNat + n.bytes ≤ txBase + bufLen ∧
      s.fsm ≠ .sending ∧ t = memWrite { s with bus := some .writeOkay } off.toNat v n.bytes) ∨
    (∃ w, e = .hostWrite cmdOffset .word w ∧
      ((∃ i, decodeCmd w = .ok i ∧ exec i { s with bus := some .writeOkay } = .next t) ∨
        ∃ c, (c = .illegalOp ∨ c = .reservedField) ∧ t = cmdError c { s with bus := some .writeOkay })) ∨
    (∃ b, e = .rxByte b ∧ t = rxByteEvent b s) ∨
    (e = .rxStep ∧ ((s.rxfifo = [] ∧ t = s) ∨ ∃ b q, s.rxfifo = b :: q ∧ rxApply b { s with rxfifo := q } = .next t)) ∨
    (e = .txAccept ∧ t = txAcceptEvent s) ∨ (e = .txFail ∧ t = txFailEvent s) ∨ (e = .tick ∧ t = tickEvent s) ∨
    (e = .reset ∧ t = resetEvent s) := by
  cases e with
  | hostRead off n => cases h; exact .inl ⟨.inl ⟨off, n, rfl⟩, _, rfl⟩
  | hostWrite off n v =>
    simp only [perform, hostWrite] at h
    split at h
    · cases h; exact .inl ⟨.inr ⟨off, n, v, rfl⟩, _, rfl⟩
    · next tg hc =>
      rcases checkWrite_ok hc with ⟨r, rfl, hro, hlk⟩ | ⟨rfl, hlo, hhi, hs⟩
      · by_cases hr : r = .cmd
        · subst hr
          obtain ⟨rfl, rfl⟩ := checkWrite_cmd hc
          refine .inr (.inr (.inr (.inl ⟨v, rfl, ?_⟩)))
          simp only [writeTarget, if_true] at h
          rcases issueCommand_cases v { s with bus := some .writeOkay } with ⟨i, hi, e⟩ | ⟨c, hcc, e⟩
          · exact .inl ⟨i, hi, e ▸ h⟩
          · rw [e] at h; cases h; exact .inr ⟨c, hcc, rfl⟩
        · simp only [writeTarget, hr, if_false] at h
          cases h
          exact .inr (.inl ⟨off, n, v, r, rfl, hr, hro, hlk, rfl⟩)
      · cases h
        exact .inr (.inr (.inl ⟨off, n, v, rfl, hlo, hhi, hs, rfl⟩))
  | rxByte b => cases h; exact .inr (.inr (.inr (.inr (.inl ⟨b, rfl, rfl⟩))))
  | rxStep =>
    refine .inr (.inr (.inr (.inr (.inr (.inl ⟨rfl, ?_⟩)))))
    simp only [perform, rxStepEvent] at h
    split at h
    · next hq => cases h; exact .inl ⟨hq, rfl⟩
    · next b q hq => exact .inr ⟨b, q, hq, h⟩
  | txAccept => cases h; exact .inr (.inr (.inr (.inr (.inr (.inr (.inl ⟨rfl, rfl⟩))))))
  | txFail => cases h; exact .inr (.inr (.inr (.inr (.inr (.inr (.inr (.inl ⟨rfl, rfl⟩)))))))
  | tick => cases h; exact .inr (.inr (.inr (.inr (.inr (.inr (.inr (.inr (.inl ⟨rfl, rfl⟩))))))))
  | reset => cases h; exact .inr (.inr (.inr (.inr (.inr (.inr (.inr (.inr (.inr ⟨rfl, rfl⟩))))))))

/-- A step that completes: its event was not enabled and only the schedule moved, or it was enabled and performed. -/
theorem step_next {s t : State} (h : step s = .next t) :
    ∃ q n, (enabled (nextEvent s).1 { s with sched := q, envIdx := n } = false ∧ t = { s with sched := q, envIdx := n }) ∨
      (enabled (nextEvent s).1 { s with sched := q, envIdx := n } = true ∧
        perform (nextEvent s).1 { s with sched := q, envIdx := n } = .next t) := by
  obtain ⟨q, n, hu⟩ := nextEvent_state s
  refine ⟨q, n, ?_⟩
  simp only [step, hu, runEvent] at h
  split at h
  · next he => exact .inr ⟨he, h⟩
  · next he => cases h; exact .inl ⟨Bool.eq_false_iff.mpr he, rfl⟩

/-- The step over one scheduled event runs it in the state itself. -/
theorem step_facing (s : State) (e : Event) (es : List Event) :
    step (s.facing (e :: es)) = runEvent e (s.facing es) := rfl

theorem facing_nil (s : State) : s.facing [] = s := rfl

/-! ## Runs -/

/-- A run goes on from what its first step gives. -/
theorem run_succ {s t : State} (k : Nat) (h : step s = .next t) :
    Host.Core.run core (k + 1) s = Host.Core.run core k t := by
  have h' : core.step s = .next t := h
  simp only [Host.Core.run, h']

/-- A run of one step is that step. -/
theorem run_one (s : State) : Host.Core.run core 1 s = step s := by
  have h : core.step s = step s := rfl
  simp only [Host.Core.run, h]
  split <;> simp_all

end Sys2Proof.Machine
end

