-- ==== Sys2Proof/Laws/PerInstr.lean ====
section
/-! SUPPORT. Statements about every instruction as syntax, one lemma per constructor. Family `Width`: an instruction is
well formed and its encoding has its port's width, four bytes for a command word and three for a header
(30_encoding.md R81, R89). -/

namespace Sys2Proof.Laws.Width

/-- The bytes of an instruction on a port. -/
def portWidth (p : Port) : Nat :=
  match p with
  | .command => 4
  | .wire => 3

def Statement (i : Instr) : Prop := i.WellFormed ∧ (encode i).length = portWidth i.port

theorem nop : Statement .nop := ⟨trivial, rfl⟩
theorem crcClr : Statement .crcClr := ⟨trivial, rfl⟩
theorem crcByte (data8 : Byte) : Statement (.crcByte data8) := ⟨data8.isLt, rfl⟩
theorem xorClr : Statement .xorClr := ⟨trivial, rfl⟩
theorem xorByte (data8 : Byte) : Statement (.xorByte data8) := ⟨data8.isLt, rfl⟩
theorem send (forceV1 : Bool) : Statement (.send forceV1) := ⟨forceV1.toNat_lt, rfl⟩
theorem receive : Statement .receive := ⟨trivial, rfl⟩
theorem transact (forceV1 : Bool) : Statement (.transact forceV1) := ⟨forceV1.toNat_lt, rfl⟩
theorem negotiate : Statement .negotiate := ⟨trivial, rfl⟩
theorem abort : Statement .abort := ⟨trivial, rfl⟩
theorem flushRx : Statement .flushRx := ⟨trivial, rfl⟩
theorem hdrV1Request : Statement .hdrV1Request := ⟨trivial, rfl⟩
theorem hdrV2Request : Statement .hdrV2Request := ⟨trivial, rfl⟩
theorem hdrV1Response : Statement .hdrV1Response := ⟨trivial, rfl⟩
theorem hdrV1Error : Statement .hdrV1Error := ⟨trivial, rfl⟩
theorem hdrV2Response : Statement .hdrV2Response := ⟨trivial, rfl⟩

end Sys2Proof.Laws.Width
end

