-- ==== Sys2Proof/Tests/Slice0.lean ====
section
/-! SUPPORT. The model's own tests. Every expected value is the spec's: 95_test_vectors.md (the vector is named), the
encodings of 30_encoding.md R82, R89 and R92, or a rule's own words. After them, for every statement with hypotheses, a
named witness that meets them. -/

open Sys2Proof Sys2Proof.Machine

set_option maxRecDepth 8192

namespace Sys2Proof.Tests

/-- The next state, if there is one. -/
def after (o : Out) : Option State :=
  match o with
  | .next t => some t
  | .fault _ => none
  | .refused _ => none

/-- One step over one scheduled event. -/
def on (e : Event) (s : State) : Option State := after (step (s.facing [e]))

/-- A receive phase in control state `f`, with `fifo` waiting. -/
def rx (f : Fsm) (fifo : List Byte) : State :=
  { State.reset with fsm := f, op := .receive, timeout := 3, timer := 3, rxfifo := fifo }

/-- V-SEND-1 in SENDING: code 100, empty payload. -/
def sending1 : State :=
  { State.reset with
    fsm := .sending, op := .send, txCode := 100, txFrame := [0x24#8, 0x4D#8, 0x3C#8, 0x00#8, 0x64#8, 0x64#8] }

/-- After V-RX-3: three payload bytes 00 02 05 of code 1 published. -/
def received3 : State :=
  { State.reset with
    result := .rxOkV1, done := true, rxValid := true, rxCode := 1, rxSize := 3
    mem := [(0x20000, 0x00#8), (0x20001, 0x02#8), (0x20002, 0x05#8)] }

/-- A V1 frame of code 0x64 and size 2 after its first payload byte 05. -/
def midPayload : State :=
  { rx .v1Payload [0x07#8] with
    rxLen := 2, rxCodeSh := 0x64, rxIdx := 1, acc := 0x63#8, mem := [(0x20000, 0x05#8)] }

/-! ## Well-formedness: one ill-formed term per check -/

theorem test_wf_opcode_unknown : (⟨0x05#8, 0#8, false, 0#15⟩ : Cmd32).wellFormed = false := by decide
theorem test_wf_opcode_gap : (⟨0x16#8, 0#8, false, 0#15⟩ : Cmd32).opKnown = false := by decide
theorem test_wf_data8_of_nop : (⟨0x00#8, 1#8, false, 0#15⟩ : Cmd32).wellFormed = false := by decide
theorem test_wf_force_v1_of_receive : (⟨0x11#8, 0#8, true, 0#15⟩ : Cmd32).wellFormed = false := by decide
theorem test_wf_reserved_bit : (⟨0x10#8, 0#8, false, 0x4000#15⟩ : Cmd32).wellFormed = false := by decide
theorem test_wf_accepts : (⟨0x12#8, 0#8, true, 0#15⟩ : Cmd32).wellFormed = true := by decide

/-! ## Decoding: one word per constructor, written out from R82, R92 and R89 -/

theorem test_decode_nop : decodeTableWord 32 0x00000000 = some .nop := by decide
theorem test_decode_crcClr : decodeTableWord 32 0x00000001 = some .crcClr := by decide
theorem test_decode_crcByte : decodeTableWord 32 0x00007F02 = some (.crcByte 0x7F#8) := by decide
theorem test_decode_xorClr : decodeTableWord 32 0x00000003 = some .xorClr := by decide
theorem test_decode_xorByte : decodeTableWord 32 0x0000C804 = some (.xorByte 0xC8#8) := by decide
theorem test_decode_send : decodeTableWord 32 0x00010010 = some (.send true) := by decide
theorem test_decode_receive : decodeTableWord 32 0x00000011 = some .receive := by decide
theorem test_decode_transact : decodeTableWord 32 0x00000012 = some (.transact false) := by decide
theorem test_decode_negotiate : decodeTableWord 32 0x00000013 = some .negotiate := by decide
theorem test_decode_abort : decodeTableWord 32 0x00000014 = some .abort := by decide
theorem test_decode_flushRx : decodeTableWord 32 0x00000015 = some .flushRx := by decide
theorem test_decode_hdrV1Request : decodeTableWord 24 0x244D3C = some .hdrV1Request := by decide
theorem test_decode_hdrV2Request : decodeTableWord 24 0x24583C = some .hdrV2Request := by decide
theorem test_decode_hdrV1Response : decodeTableWord 24 0x244D3E = some .hdrV1Response := by decide
theorem test_decode_hdrV1Error : decodeTableWord 24 0x244D21 = some .hdrV1Error := by decide
theorem test_decode_hdrV2Response : decodeTableWord 24 0x24583E = some .hdrV2Response := by decide
/-- `$X!` is no header (R89, V-RX-13). -/
theorem test_decode_no_v2_error : decodeTableWord 24 0x245821 = none := by decide
/-- V-CMD-3: the opcode is checked before the fields. -/
theorem test_decode_order : decodeCmd 0x00010005#32 = .error .illegalOp := by decide
/-- V-CMD-4. -/
theorem test_decode_reserved : decodeCmd 0x80000010#32 = .error .reservedField := by decide

/-! ## An instruction placed after reset is run by the next step -/

theorem test_fetch_command :
    (after (step (State.reset.withFetchWord 32 0x0102))).map (·.crcAcc) = some 0xD5#8 := by decide
theorem test_fetch_header :
    (after (step (State.reset.withFetchWord 24 0x24583E))).map (·.fsm) = some .v2Flag := by decide
theorem test_fetch_error_header :
    (after (step (State.reset.withFetchWord 24 0x244D21))).map (·.result) = some .rejected := by decide

/-! ## Integrity functions and commands (95_test_vectors.md L2.1 to L2.3) -/

/-- V-STEP-1 to V-STEP-14. -/
theorem test_crc8Step_vectors :
    (([(0x00, 0x00), (0x00, 0x01), (0x00, 0x02), (0x00, 0x04), (0x00, 0x10), (0x00, 0x40), (0x00, 0x80), (0x00, 0xFF),
       (0x00, 0xD5), (0x00, 0x24), (0xFF, 0x00), (0x01, 0x01), (0xBC, 0xBC), (0x5A, 0x4D)] : List (Byte × Byte)).map
      fun x => crc8Step x.1 x.2)
    = [0x00#8, 0xD5#8, 0x7F#8, 0xFE#8, 0x52#8, 0x9D#8, 0xEF#8, 0xF9#8, 0x0B#8, 0x5A#8, 0xF9#8, 0x00#8, 0x00#8, 0x06#8] := by
  decide

/-- V-CRC-1. -/
theorem test_crc8_check_value :
    crc8 [0x31#8, 0x32#8, 0x33#8, 0x34#8, 0x35#8, 0x36#8, 0x37#8, 0x38#8, 0x39#8] = 0xBC#8 := by decide
/-- V-CRC-6 and V-CRC-9. -/
theorem test_crc8_sequences :
    crc8 [0xFF#8, 0xFF#8] = 0x81#8 ∧ crc8 [0x5A#8, 0x01#8, 0x00#8, 0x00#8, 0x00#8] = 0xA2#8 := by decide
/-- V-XOR-1. -/
theorem test_foldXor : foldXor [0x03#8, 0xC8#8, 0x01#8, 0x02#8, 0x03#8] = 0xCB#8 := by decide

/-- V-INT-4, through the window. -/
theorem test_crcByte_same :
    (on (.hostWrite cmdOffset .word 0x00007F02#32) { State.reset with crcAcc := 0x7F }).map (·.crcAcc) = some 0x00#8 := by
  decide
/-- V-INT-8: accepted in SENDING. -/
theorem test_crcByte_sending :
    (on (.hostWrite cmdOffset .word 0x00000102#32) sending1).map (fun t => (t.crcAcc, t.fsm, t.cmdErr))
      = some (0xD5#8, .sending, false) := by decide
/-- V-INT-2. -/
theorem test_crcClr : (after (exec .crcClr { State.reset with crcAcc := 0xBC })).map (·.crcAcc) = some 0x00#8 := by decide
/-- V-INT-6, its first word. -/
theorem test_xorByte : (after (exec (.xorByte 0x5A#8) { State.reset with xorAcc := 0x5A })).map (·.xorAcc) = some 0x00#8 := by
  decide
/-- V-INT-7. -/
theorem test_xorClr : (after (exec .xorClr { State.reset with xorAcc := 0x31 })).map (·.xorAcc) = some 0x00#8 := by decide
/-- R105. -/
theorem test_nop : after (exec .nop received3) = some received3 := by decide
/-- V-INT-9. -/
theorem test_crcByte_reserved :
    (on (.hostWrite cmdOffset .word 0x00010002#32) State.reset).map (fun t => (t.crcAcc, t.cmdErr, t.errCause))
      = some (0x00#8, true, .reservedField) := by decide

/-! ## Frames and sending (L2.4, L2.7) -/

/-- V-ENC1-4 and V-ENC1-7. -/
theorem test_encV1 :
    encV1 0xC8#8 [0x01#8, 0x02#8, 0x03#8]
      = [0x24#8, 0x4D#8, 0x3C#8, 0x03#8, 0xC8#8, 0x01#8, 0x02#8, 0x03#8, 0xCB#8] ∧
    encV1 0x24#8 [0x24#8] = [0x24#8, 0x4D#8, 0x3C#8, 0x01#8, 0x24#8, 0x24#8, 0x01#8] := by decide
/-- V-ENC2-4 and V-ENC2-8. -/
theorem test_encV2 :
    encV2 0x3003#16 [0xAA#8, 0x55#8]
      = [0x24#8, 0x58#8, 0x3C#8, 0x00#8, 0x03#8, 0x30#8, 0x02#8, 0x00#8, 0xAA#8, 0x55#8, 0xB3#8] ∧
    encV2 0x0100#16 [0x24#8]
      = [0x24#8, 0x58#8, 0x3C#8, 0x00#8, 0x00#8, 0x01#8, 0x01#8, 0x00#8, 0x24#8, 0x9C#8] := by decide
/-- V-FLIP-1. -/
theorem test_flip : (encV1 0xC8#8 [0x01#8, 0x02#8, 0x02#8]).getLast? = some 0xCA#8 ∧
    (encV2 0x00C8#16 [0x01#8, 0x02#8, 0x02#8]).getLast? = some 0xFF#8 := by decide
/-- V-SEND-1, up to the offered frame. -/
theorem test_send : after (exec (.send false) { State.reset with txCode := 100 }) = some sending1 := by decide
/-- V-SEND-8: the size is checked first. -/
theorem test_send_size_first :
    (after (exec (.send false) { State.reset with txSize := 300, txCode := 0x100 })).map (fun t => (t.result, statusWord t))
      = some (.payloadTooLarge, 0x00010900#32) := by decide
/-- V-SEND-9, up to the offered frame. -/
theorem test_transact_v2 :
    (after (exec (.transact false) { State.reset with v2Supported := true, txCode := 0x100 })).map
        (fun t => (t.txFrame, t.op, t.txV2))
      = some ([0x24#8, 0x58#8, 0x3C#8, 0x00#8, 0x00#8, 0x01#8, 0x00#8, 0x00#8, 0x83#8], .transact, true) := by decide
/-- V-SEND-7. -/
theorem test_transact_code_too_large :
    (after (exec (.transact true) { State.reset with v2Supported := true, txSize := 1, txCode := 0x100 })).map (·.result)
      = some .codeTooLarge := by decide
/-- V-SES-1 and P2: `STATUS` in SENDING, and the frame on the port. -/
theorem test_negotiate :
    (after (exec .negotiate { State.reset with txCode := 1 })).map (fun t => (statusWord t, t.txFrame))
      = some (0x00009001#32,
          [0x24#8, 0x58#8, 0x3C#8, 0x00#8, 0x01#8, 0x00#8, 0x00#8, 0x00#8, 0x45#8]) := by decide
/-- V-SES-6. -/
theorem test_negotiate_too_large :
    (after (exec .negotiate { State.reset with txSize := 70000 })).map (fun t => (statusWord t, t.wireTx))
      = some (0x00010900#32, []) := by decide
/-- V-SEND-1 accepted: the frame joins the log. -/
theorem test_txAccept :
    (on .txAccept sending1).map (fun t => (t.wireTx, t.result, t.fsm))
      = some ([[0x24#8, 0x4D#8, 0x3C#8, 0x00#8, 0x64#8, 0x64#8]], .sentV1, .idle) := by decide
/-- V-SEND-11 and V-SES-9. -/
theorem test_txFail : (on .txFail sending1).map (fun t => (statusWord t, t.wireTx)) = some (0x00010B00#32, []) := by decide

/-! ## Receiving (L2.5, L2.6), one step each -/

theorem test_receive :
    (after (exec .receive { received3 with timeout := 100 })).map (fun t => (t.fsm, t.timer, t.rxValid, t.rxSize))
      = some (.scan, 100#32, false, 0#16) := by decide
/-- V-CMD-8. -/
theorem test_receive_busy : (after (exec .receive sending1)).map (fun t => (t.fsm, t.errCause)) = some (.sending, .busy) := by
  decide
/-- V-RX-14: a second `$` is skipped. -/
theorem test_rx_dollar_dollar : (on .rxStep (rx .gotDollar [0x24#8])).map (·.fsm) = some .hdrSkip := by decide
/-- V-RX-12: `$M<` resyncs. -/
theorem test_hdrV1Request : (after (exec .hdrV1Request (rx .gotM []))).map (·.fsm) = some .scan := by decide
theorem test_hdrV2Request : (after (exec .hdrV2Request (rx .gotX []))).map (·.fsm) = some .scan := by decide
/-- V-RX-1, its third byte. -/
theorem test_hdrV1Response : (on .rxStep (rx .gotM [0x3E#8])).map (fun t => (t.fsm, t.rxfifo)) = some (.v1Size, []) := by
  decide
/-- V-RX-10: the rest of the frame stays in the FIFO. -/
theorem test_hdrV1Error :
    (on .rxStep (rx .gotM [0x21#8, 0x00#8, 0x64#8, 0x64#8])).map (fun t => (t.fsm, t.result, t.rxfifo))
      = some (.idle, .rejected, [0x00#8, 0x64#8, 0x64#8]) := by decide
/-- V-RX-2, its third byte. -/
theorem test_hdrV2Response : (on .rxStep (rx .gotX [0x3E#8])).map (·.fsm) = some .v2Flag := by decide
/-- V-RX-13: `$X!` resyncs. -/
theorem test_no_v2_error_header : (on .rxStep (rx .gotX [0x21#8])).map (·.fsm) = some .scan := by decide
/-- V-RX-4: size 00 after 03 is 3, low byte first. -/
theorem test_v2_size : (on .rxStep { rx .v2SizeHi [0x00#8] with rxLen := 3 }).map (fun t => (t.rxLen, t.fsm))
    = some (3#16, .v2Payload) := by decide
/-- V-RX-8: a wrong checksum publishes nothing. -/
theorem test_v1_mismatch :
    (on .rxStep { rx .v1Check [0x65#8] with rxCodeSh := 0x64, acc := 0x64 }).map (fun t => (t.result, t.rxValid, t.rxCode))
      = some (.checksumMismatch, false, 0#16) := by decide
/-- V-RX-19: a nonzero flag is published. -/
theorem test_v2_flag :
    (on .rxStep { rx .v2Crc [0xA2#8] with rxCodeSh := 1, rxFlagSh := 0x5A, acc := 0xA2 }).map
      (fun t => (t.result, rxInfoWord t)) = some (.rxOkV2, 0x15A#32) := by decide
/-- V-TMO-2, its last tick. -/
theorem test_tick_timeout :
    (on .tick { rx .scan [] with timer := 1 }).map (fun t => (statusWord t, t.timer)) = some (0x00010600#32, 0#32) := by
  decide
/-- V-TMO-3: a deadline of 0 ends at the first tick. -/
theorem test_tick_zero : (on .tick { rx .scan [] with timer := 0 }).map (·.result) = some .timeout := by decide

/-! ## Session (L2.8, L2.9) -/

/-- V-SES-1, its last step. -/
theorem test_negotiated :
    (on .rxStep { rx .v2Crc [0x45#8] with op := .negotiate, rxCodeSh := 1, acc := 0x45 }).map
      (fun t => (t.result, t.v2Supported)) = some (.rxOkV2, true) := by decide
/-- V-SES-2, its last step: a V1 response leaves the flag. -/
theorem test_not_negotiated_v1 :
    (on .rxStep { rx .v1Check [0x01#8] with op := .negotiate, rxCodeSh := 1, acc := 0x01 }).map
      (fun t => (t.result, t.v2Supported)) = some (.rxOkV1, false) := by decide
/-- V-SES-10. -/
theorem test_abort : (after (exec .abort midPayload)).map (fun t => (statusWord t, t.rxValid)) = some (0x00010C00#32, false) := by
  decide
/-- V-SES-12. -/
theorem test_abort_sending : (after (exec .abort sending1)).map (fun t => (t.fsm, t.errCause)) = some (.sending, .busy) := by
  decide
/-- V-SES-13. -/
theorem test_flushRx :
    (after (exec .flushRx { State.reset with rxfifo := [1#8, 2#8, 3#8], rxOverrun := true })).map
      (fun t => (t.rxfifo, t.rxOverrun)) = some ([], true) := by decide
/-- V-SES-14. -/
theorem test_flushRx_busy :
    (after (exec .flushRx (rx .scan [1#8]))).map (fun t => (t.rxfifo, t.errCause)) = some ([1#8], .busy) := by decide
/-- V-SES-15: reset drops the offered frame. -/
theorem test_reset_drops_frame :
    (on .reset sending1).map (fun t => (t.fsm, statusWord t, t.wireTx)) = some (.idle, 0#32, []) := by decide
/-- V-CMD-1, and `STATUS` after it. -/
theorem test_illegal_op :
    (on (.hostWrite cmdOffset .word 0x00000005#32) State.reset).map statusWord = some 0x01020000#32 := by decide
/-- V-CMD-6: the field before BUSY. -/
theorem test_reserved_before_busy :
    (on (.hostWrite cmdOffset .word 0x00010011#32) (rx .scan [])).map (·.errCause) = some .reservedField := by decide

/-! ## The window (L2.10) -/

/-- V-BUS-1, V-BUS-3 to V-BUS-8, V-BUS-15, V-BUS-19 and V-BUS-25. -/
theorem test_bus_reads :
    ([(0x000, 4), (0x000, 1), (0x009, 2), (0x003, 4), (0x038, 4), (0x100, 4), (0x004, 4), (0x1FFFF, 1), (0x20000, 1),
      (0x2FFFC, 4)].map fun x => (readAnswer State.reset x.1 x.2))
    = [.readOkay 0x4D535001#32, .error .size, .error .align, .error .align, .error .decErr, .error .decErr,
       .readOkay 0#32, .error .decErr, .error .notValid, .error .decErr] := by decide
/-- V-BUS-2, V-BUS-14, V-BUS-16, V-BUS-18 and V-BUS-24. -/
theorem test_bus_writes :
    ([(0x000, 4), (0x1FFFE, 2), (0x10001, 2), (0x20000, 1), (0x018, 4), (0x030, 4), (0x034, 4)].map
      fun x => (checkWrite State.reset x.1 x.2))
    = [.error .readOnly, .error .decErr, .error .align, .error .readOnly, .error .readOnly, .error .readOnly,
       .error .readOnly] := by decide
/-- V-BUS-9. -/
theorem test_bus_txCode :
    (on (.hostWrite 0x010#32 .word 0x12345678#32) State.reset).map (readReg .txCode) = some 0x00005678#32 := by decide
/-- V-BUS-10 and V-BUS-11. -/
theorem test_bus_locked :
    on (.hostWrite 0x010#32 .word 5#32) sending1 = some { sending1 with bus := some (.error .locked) } ∧
    on (.hostWrite 0x10000#32 .byte 0xAA#32) sending1 = some { sending1 with bus := some (.error .locked) } := by decide
/-- V-BUS-17: little-endian. -/
theorem test_bus_little_endian :
    (on (.hostWrite 0x10000#32 .word 0x44332211#32) State.reset).map (·.mem)
      = some [(0x10000, 0x11#8), (0x10001, 0x22#8), (0x10002, 0x33#8), (0x10003, 0x44#8)] := by decide
/-- V-BUS-20 to V-BUS-22. -/
theorem test_bus_rx_buf :
    readAnswer received3 0x20000 2 = .readOkay 0x00000200#32 ∧ readAnswer received3 0x20002 2 = .error .notValid ∧
    readAnswer received3 0x20002 1 = .readOkay 0x00000005#32 := by decide
/-- V-BUS-23. -/
theorem test_bus_w1c :
    (on (.hostWrite 0x008#32 .word 0xFFFFFFFF#32) { received3 with cmdErr := true, rxOverrun := true }).map statusWord
      = some 0x00004300#32 := by decide
/-- R214: the level follows the enables. -/
theorem test_irq : irq { received3 with doneIe := true } = true ∧ irq received3 = false := by decide

/-! ## Witnesses: for every statement with hypotheses, a state and operands that meet them -/

/-- The step's answer from the state it leads to. -/
theorem step_of_on {e : Event} {s t : State} (h : on e s = some t) : step (s.facing [e]) = .next t := by
  unfold on after at h
  split at h
  · next h' => rw [h', Option.some.inj h]
  · cases h
  · cases h

theorem depth_pos : 0 < Config.rxFifoDepth := Nat.succ_pos _

/-- A state with a valid V1 frame of three bytes meets the invariant. -/
theorem test_witness_inv : received3.Inv where
  opIdle := by decide
  opSending := by decide
  opReceiving := by decide
  memWf := by decide
  fifoBound := Nat.zero_le _
  idxBound := by decide
  v1Len := by decide
  running := by decide
  frameIdle := by decide
  frameLen := by decide
  rxHidden := by decide
  rxPhase := by decide
  v1Flag := by decide
  errCause := by decide

/-- A state in the middle of a V1 payload meets the invariant. -/
theorem test_witness_inv_payload : midPayload.Inv where
  opIdle := by decide
  opSending := by decide
  opReceiving := by decide
  memWf := by decide
  fifoBound := depth_pos
  idxBound := by decide
  v1Len := by decide
  running := by decide
  frameIdle := by decide
  frameLen := by decide
  rxHidden := by decide
  rxPhase := by decide
  v1Flag := by decide
  errCause := by decide

theorem inv_facing {s : State} (h : s.Inv) (es : List Event) : (s.facing es).Inv :=
  ⟨h.opIdle, h.opSending, h.opReceiving, h.memWf, h.fifoBound, h.idxBound, h.v1Len, h.running, h.frameIdle, h.frameLen,
    h.rxHidden, h.rxPhase, h.v1Flag, h.errCause⟩

/-- The next state of `midPayload` over its last payload byte. -/
def afterPayload : State :=
  { midPayload with
    fsm := .v1Check, acc := 0x64#8, rxIdx := 2, rxfifo := [], mem := [(0x20000, 0x05#8), (0x20001, 0x07#8)] }

/-! ### Encoding and the step -/

theorem test_witness_DecodedBytesAreTheEncoding :
    decode .command [0x02#8, 0x7F#8, 0x00#8, 0x00#8] = .ok (.crcByte 0x7F#8) ∧
    decode .wire [0x24#8, 0x58#8, 0x3E#8] = .ok .hdrV2Response := by decide
theorem test_witness_CommandWordDecodeClassified :
    (cmdFields 0x00010012#32).wellFormed = true ∧ (cmdFields 0x00000016#32).opKnown = false ∧
    ((cmdFields 0x00020015#32).opKnown = true ∧ (cmdFields 0x00020015#32).wellFormed = false) := by decide
theorem test_witness_StepRunsDecodedCommand :
    decodeCmd 0x00010012#32 = .ok (.transact true) ∧ decodeCmd 0x0000FF04#32 = .ok (.xorByte 0xFF#8) := by decide
theorem test_witness_StepRunsDecodedHeader :
    decode .wire [0x24#8, 0x4D#8, 0x21#8] = .ok .hdrV1Error ∧
    decode .wire [0x24#8, 0x58#8, 0x3C#8] = .ok .hdrV2Request := by decide
theorem test_witness_AnyEventMayComeNext :
    enabled .rxStep midPayload = true ∧ enabled .rxStep State.reset = false ∧ enabled .txAccept State.reset = false := by
  decide
theorem test_witness_RefusedCommandSetsTwoFields :
    (cmdFields 0x00010005#32).opKnown = false ∧
    ((cmdFields 0x00010011#32).opKnown = true ∧ (cmdFields 0x00010011#32).wellFormed = false) ∧
    (decodeCmd 0x00000015#32 = .ok .flushRx ∧ needsIdle .flushRx = true ∧ midPayload.fsm ≠ .idle) ∧
    (decodeCmd 0x00000014#32 = .ok .abort ∧ sending1.fsm = .sending) := by decide

/-! ### Integrity, frames and sending -/

theorem test_witness_SingleBitErrorsDetected :
    1 < ([0x31#8, 0x32#8] : List Byte).length ∧
    ([0x31#8, 0x32#8] : List Byte).length = ([0x00#8, 0x80#8] : List Byte).length := by decide
theorem test_witness_IntegrityRunsFoldTheirBytes :
    ([0x31#8, 0x32#8] : List Byte) ≠ [] ∧ State.reset.crcAcc = 0#8 := by decide
theorem test_witness_EncodersLayOutFrames :
    build .v1 { State.reset with txCode := 100 } = .ok sending1.txFrame ∧
    build .v2 { State.reset with txCode := 1 }
      = .ok [0x24#8, 0x58#8, 0x3C#8, 0x00#8, 0x01#8, 0x00#8, 0x00#8, 0x00#8, 0x45#8] := by decide
theorem test_witness_FrameLengthsAndCoverage :
    (List.replicate 255 (0#8 : Byte)).length ≤ 255 ∧ (List.replicate 65535 (0#8 : Byte)).length ≤ 65535 := by
  simp only [List.length_replicate]; decide
/-- Each clause at its boundary: lengths 255, 256, 65535 and 65536, codes 255 and 256. -/
theorem test_witness_BuildChecksSizeThenCode :
    65535 < (65536#32).toNat ∧ (65535#32).toNat ≤ 65535 ∧ 255 < (256#32).toNat ∧
    ((255#32).toNat ≤ 255 ∧ 255 < (256#16).toNat) ∧ (255#16).toNat ≤ 255 := by decide
theorem test_witness_FamilyChoice : received3.fsm = .idle := by decide
theorem test_witness_SendingCommandsComplete :
    (State.reset.fsm = .idle ∧ chooseFamily { State.reset with txCode := 100 } false = .v1 ∧
      build .v1 { State.reset with txCode := 100 } = .ok sending1.txFrame) ∧
    (chooseFamily { State.reset with v2Supported := true } false = .v2) ∧
    (build .v1 { State.reset with txSize := 256 } = .error .payloadTooLarge) ∧
    (build .v1 { State.reset with txCode := 256 } = .error .codeTooLarge) ∧
    (build .v2 { State.reset with txSize := 65536 } = .error .payloadTooLarge) := by decide
theorem test_witness_TxAcceptDelivers :
    enabled .txAccept sending1 = true ∧ enabled .txAccept received3 = false ∧
    step ({ sending1 with op := .transact, timeout := 7 }.facing [.txAccept])
      = .next { sending1 with
          op := .transact, timeout := 7, timer := 7, fsm := .scan, wireTx := [sending1.txFrame] } :=
  ⟨by decide, by decide, step_of_on (by decide)⟩
theorem test_witness_WireGrowsByWholeFrames :
    step (sending1.facing [.txAccept])
      = .next { sending1 with
          fsm := .idle, op := .none, done := true, result := .sentV1, txFrame := [], wireTx := [sending1.txFrame] } :=
  step_of_on (by decide)
theorem test_witness_OfferedFrameMatchesRegisters :
    (sending1.facing [.tick]).FrameLatched ∧ sending1.fsm = .sending ∧ step (sending1.facing [.tick]) = .next sending1 :=
  ⟨fun _ => by decide, by decide, step_of_on (by decide)⟩
theorem test_witness_OnlyRequestsAreSent :
    let s := { sending1 with wireTx := [sending1.txFrame] }
    (s.facing [.tick]).FrameLatched ∧ (∀ f ∈ s.wireTx, IsRequest f) ∧ step (s.facing [.tick]) = .next s :=
  ⟨fun _ => by decide, by simp [sending1, IsRequest, encode], step_of_on (by decide)⟩

/-! ### Receiving -/

theorem test_witness_ReceiveCompletes : received3.fsm = .idle := by decide
theorem test_witness_HeadersComplete : (rx .gotM []).fsm = .gotM ∧ (rx .gotX []).fsm = .gotX := by decide
theorem test_witness_HeadersElsewhereChangeNothing : (rx .scan []).fsm ≠ .gotM ∧ (rx .gotM []).fsm ≠ .gotX := by decide
theorem test_witness_PayloadBytesAreStored : (0#17).toNat < 65535 ∧ (65534#17).toNat < 65535 := by decide
theorem test_witness_PayloadOutsideBufferFaults : 65535 ≤ (65535#17).toNat ∧ 65535 ≤ (131071#17).toNat := by decide
/-- V-RX-3 and V-RX-6 before their last byte: 05 and B3 are the bytes that match. -/
theorem test_witness_IntegrityByteDecides :
    let v1 : State := { rx .v1Check [] with
      rxLen := 3, rxCodeSh := 1, acc := 0x05#8, mem := [(0x20000, 0x00#8), (0x20001, 0x02#8), (0x20002, 0x05#8)] }
    let v2 : State := { rx .v2Crc [] with
      rxLen := 2, rxCodeSh := 0x3003, acc := 0xB3#8, mem := [(0x20000, 0xAA#8), (0x20001, 0x55#8)] }
    (v1.fsm = .v1Check ∧ v1.AccTracks) ∧ (v2.fsm = .v2Crc ∧ v2.AccTracks) :=
  ⟨⟨rfl, by show (0x05#8 : Byte) = _; decide⟩, ⟨rfl, by show (0xB3#8 : Byte) = _; decide⟩⟩
theorem test_witness_RunningIntegrityIsKept :
    (midPayload.facing [.rxStep]).Inv ∧ (midPayload.facing [.rxStep]).AccTracks ∧
    step (midPayload.facing [.rxStep]) = .next afterPayload :=
  ⟨inv_facing test_witness_inv_payload _, by show (0x63#8 : Byte) = _; decide, step_of_on (by decide)⟩
theorem test_witness_ReceiveInvertsEncode :
    (List.replicate 255 (0x24#8 : Byte)).length ≤ 255 ∧ (List.replicate 65535 (0x24#8 : Byte)).length ≤ 65535 := by
  simp only [List.length_replicate]; decide
theorem test_witness_TickCountsTheDeadline :
    (midPayload.fsm.isRx = true ∧ 1 < midPayload.timer.toNat) ∧ (1#32).toNat ≤ 1 ∧ (0#32).toNat ≤ 1 ∧ 1 < (2#32).toNat ∧
    received3.fsm = .idle ∧ sending1.fsm = .sending := by decide
theorem test_witness_DeadlineIsOverall :
    (midPayload.fsm.isRx = true ∧ 2 < midPayload.timer.toNat) ∧ step (midPayload.facing [.rxStep]) = .next afterPayload :=
  ⟨by decide, step_of_on (by decide)⟩
theorem test_witness_RxByteIsKeptOrDropped :
    ([] : List Byte).length < Config.rxFifoDepth ∧
    Config.rxFifoDepth ≤ (List.replicate Config.rxFifoDepth (0#8 : Byte)).length :=
  ⟨depth_pos, by rw [List.length_replicate]⟩
theorem test_witness_FifoKeepsOrder :
    step ((rx .scan [0x41#8, 0x24#8]).facing [.rxStep]) = .next (rx .scan [0x24#8]) := step_of_on (by decide)

/-! ### Session and the window -/

theorem test_witness_AbortAndFlushComplete :
    midPayload.fsm.isRx = true ∧ sending1.fsm = .sending ∧ received3.fsm = .idle := by decide
/-- V-SES-1, its last step, and a reset after it. -/
theorem test_witness_VersionFlagIsSticky :
    let s : State := { rx .v2Crc [0x45#8] with op := .negotiate, rxCodeSh := 1, acc := 0x45 }
    let t : State := { s with
      fsm := .idle, op := .none, result := .rxOkV2, done := true, v2Supported := true, rxValid := true, rxCode := 1,
      rxIsV2 := true, rxfifo := [] }
    (step (s.facing [.rxStep]) = .next t ∧ s.v2Supported = false ∧ t.v2Supported = true) ∧
    (step (t.facing [.reset]) = .next (resetEvent t) ∧ (resetEvent t).v2Supported = false) :=
  ⟨⟨step_of_on (by decide), rfl, rfl⟩, rfl, rfl⟩
theorem test_witness_OperationsEndWithAResult :
    sending1.fsm ≠ .idle ∧
    step (sending1.facing [.txFail])
      = .next { sending1 with
          fsm := .idle, op := .none, done := true, result := .transportError, txFrame := [] } :=
  ⟨by decide, step_of_on (by decide)⟩
theorem test_witness_BusErrorsChangeNothing :
    step ({ sending1 with bus := none }.facing [.hostWrite 0x010#32 .word 5#32])
      = .next { sending1 with bus := some (.error .locked) } ∧
    step ({ sending1 with bus := none }.facing [.hostRead 0x100#32 .word])
      = .next { sending1 with bus := some (.error .decErr) } :=
  ⟨step_of_on (by decide), step_of_on (by decide)⟩
theorem test_witness_AccessSideEffects :
    (readWindow received3 (0x000#32).toNat AccessSize.word.bytes = .ok 0x4D535001#32 ∧
      readWindow received3 (0x20003#32).toNat AccessSize.byte.bytes = .error .notValid) ∧
    (checkWrite received3 (0x02C#32).toNat AccessSize.word.bytes = .ok (.reg .timeout) ∧
      checkWrite received3 (0x1FFFE#32).toNat AccessSize.byte.bytes = .ok (.txb 0x1FFFE) ∧
      checkWrite received3 (0x000#32).toNat AccessSize.word.bytes = .error .readOnly) ∧
    (0x008#32 : Word) ≠ cmdOffset ∧ (0x1FFFE#32 : Word) ≠ cmdOffset ∧ decodeCmd 0x00007F02#32 = .ok (.crcByte 0x7F#8) := by
  decide
/-- Each clause at the ends of its range. -/
theorem test_witness_BusErrorPriority :
    ((0x100 ≤ 0x100 ∧ 0x100 < 0x10000) ∧ (0x100 ≤ 0xFFFF ∧ 0xFFFF < 0x10000) ∧ 0x30000 ≤ 0x30000) ∧
    (0x2FFFF < 0x30000 ∧ 0x2FFFF % 4 ≠ 0) ∧ (0xFF < 0x100 ∧ 0xFF % 1 = 0 ∧ 1 ≠ 4) ∧
    (0x38 ≤ 0xFC ∧ 0xFC < 0x100 ∧ 0xFC % 4 = 0) ∧ (regAt 0x000 = some .id ∧ regAt 0x034 = some .rxfifoLevel) ∧
    (0x1FFFE < 0x20000 ∧ 0x1FFFE % 2 = 0 ∧ 65535 < 0x1FFFE - 0x10000 + 2) ∧
    (0x2FFFE < 0x30000 ∧ 0x2FFFE % 1 = 0 ∧ ¬65535 < 0x2FFFE - 0x20000 + 1) := by decide
theorem test_witness_RegisterWritesReadBack : received3.fsm ≠ .sending := by decide
/-- The two forms: a locked register, and the first and last byte of TX_BUF. -/
theorem test_witness_SendingLocksFrameOperands :
    step (sending1.facing [.hostWrite 0x10000#32 .word 5#32]) = .next { sending1 with bus := some (.error .locked) } ∧
    sending1.fsm = .sending ∧
    (0x10000 ≤ (0x10000#32).toNat ∧ (0x10000#32).toNat + AccessSize.word.bytes ≤ 0x1FFFF ∧
      (0x10000#32).toNat % AccessSize.word.bytes = 0) ∧
    (0x10000 ≤ (0x1FFFE#32).toNat ∧ (0x1FFFE#32).toNat + AccessSize.byte.bytes ≤ 0x1FFFF ∧
      (0x1FFFE#32).toNat % AccessSize.byte.bytes = 0) := ⟨step_of_on (by decide), by decide⟩
theorem test_witness_TxBufWritesReadBack :
    received3.fsm ≠ .sending ∧
    (0x10000 ≤ (0x1FFFC#32).toNat ∧ (0x1FFFC#32).toNat + AccessSize.half.bytes ≤ 0x1FFFF ∧
      (0x1FFFC#32).toNat % AccessSize.half.bytes = 0) := by decide
/-- Two states that differ in a byte of RX_BUF beyond the valid frame; the first and last byte of RX_BUF read while
receiving. -/
theorem test_witness_HiddenBytesStayHidden :
    let t := writeByte received3 0x20003 0xFF#8
    (received3.facing [.tick]).Inv ∧ SameToHost (received3.facing [.tick]) (t.facing [.tick]) ∧ t ≠ received3 ∧
    step (received3.facing [.tick]) = .next received3 ∧
    (midPayload.Inv ∧ midPayload.fsm.isRx = true ∧ (0x20000#32).toNat % AccessSize.word.bytes = 0 ∧
      (0x2FFFE#32).toNat + AccessSize.byte.bytes ≤ 0x2FFFF) := by
  refine ⟨inv_facing test_witness_inv _, ⟨rfl, fun o ho => ?_, fun o ho => ?_⟩, by decide, step_of_on (by decide),
    test_witness_inv_payload, by decide⟩
  · exact readByte_writeByte_other _ _ (by unfold txBase; unfold bufLen at ho; omega)
  · have h : rxHeld (received3.facing [.tick]) = 3 := rfl
    rw [h] at ho
    exact readByte_writeByte_other _ _ (by unfold rxBase; omega)

/-! ### The whole machine -/

theorem test_witness_StepsKeepTheInvariant :
    (midPayload.facing [.rxStep]).Inv ∧ step (midPayload.facing [.rxStep]) = .next afterPayload :=
  ⟨inv_facing test_witness_inv_payload _, step_of_on (by decide)⟩
theorem test_witness_CommandFrame : exec .receive State.reset = .next (rxBegin { State.reset with op := .receive }) := rfl
/-- A window write and a payload byte that each change a byte of a buffer. -/
theorem test_witness_BufferWriters :
    let s : State := { State.reset with mem := [(0x10000, 0x01#8)] }
    let t : State := { s with mem := [(0x10000, 0x02#8)], bus := some .writeOkay }
    let p : State := { midPayload with rxIdx := 0 }
    let q : State := { p with rxIdx := 1, acc := 0x64#8, rxfifo := [], mem := [(0x20000, 0x07#8)] }
    (step (s.facing [.hostWrite 0x10000#32 .byte 2#32]) = .next t ∧ readByte t 0x10000 ≠ readByte s 0x10000) ∧
    (step (p.facing [.rxStep]) = .next q ∧ readByte q 0x20000 ≠ readByte p 0x20000) :=
  ⟨⟨step_of_on (by decide), by decide⟩, step_of_on (by decide), by decide⟩
theorem test_witness_RegisterWriters :
    (nextEvent (midPayload.facing [.rxStep])).1 ≠ .reset ∧
    (∀ off n v, (nextEvent (midPayload.facing [.rxStep])).1 ≠ .hostWrite off n v) ∧
    step (midPayload.facing [.rxStep]) = .next afterPayload :=
  ⟨nofun, nofun, step_of_on (by decide)⟩

end Sys2Proof.Tests
end

section
/-! PROOFS. The version flag (10_state.md R28) and the fields of the `STATUS` word (R25, R26). -/

namespace Sys2Proof.Machine

/-! ## What keeps the version flag -/

/-- Only RX_OK_V2 touches the flag at the end of an operation (R186). -/
theorem finish_v2Supported_of_ne {r : Result} (h : r ≠ .rxOkV2) (s : State) :
    (finish r s).v2Supported = s.v2Supported := by
  simp [h]

theorem build_error_ne_rxOkV2 {fam : Family} {s : State} {r : Result} (h : build fam s = .error r) :
    r ≠ .rxOkV2 := by
  rcases build_cases fam s with ⟨r', hr', hcause⟩ | ⟨f, hf, -⟩
  · cases h.symm.trans hr'
    rcases hcause with rfl | rfl <;> decide
  · cases h.symm.trans hf

theorem startSend_v2Supported (kind : LongOp) (fam : Family) (s : State) :
    (startSend kind fam s).v2Supported = s.v2Supported := by
  rcases startSend_cases kind fam s with ⟨r, hr, e⟩ | ⟨f, -, e⟩
  · rw [e, finish_v2Supported_of_ne (build_error_ne_rxOkV2 hr)]
  · rw [e, latchFrame_v2Supported]

/-- No instruction changes the version flag: NEGOTIATE only starts the operation that may set it (R184, R186). -/
theorem exec_v2Supported {i : Instr} {s t : State} (h : exec i s = .next t) : t.v2Supported = s.v2Supported := by
  rcases exec_cases h with rfl | rfl | ⟨-, rfl⟩ | ⟨d, -, rfl⟩ | ⟨-, rfl⟩ | ⟨d, -, rfl⟩ | ⟨-, kind, fam, -, rfl⟩ |
    ⟨-, -, rfl⟩ | ⟨-, -, rfl⟩ | ⟨-, -, rfl⟩ | ⟨-, -, rfl | rfl | rfl | rfl⟩
  · rfl
  · rfl
  · rfl
  · rfl
  · rfl
  · rfl
  · exact startSend_v2Supported kind fam (opBegin s)
  · rfl
  · exact finish_v2Supported_of_ne (by decide) s
  · rfl
  · rfl
  · rfl
  · rfl
  · exact finish_v2Supported_of_ne (by decide) s

theorem rxHeader_v2Supported {b1 b2 : Byte} {s t : State} (h : rxHeader b1 b2 s = .next t) :
    t.v2Supported = s.v2Supported := by
  rcases rxHeader_cases b1 b2 s with ⟨i, -, e⟩ | e
  · exact exec_v2Supported (e ▸ h)
  · cases e.symm.trans h; rfl

theorem writeReg_v2Supported (r : Reg) (v : Word) (s : State) : (writeReg r v s).v2Supported = s.v2Supported := by
  cases r <;> rfl

theorem memWrite_v2Supported (s : State) (a : Nat) (v : Word) (n : Nat) :
    (memWrite s a v n).v2Supported = s.v2Supported := by
  rw [memWrite_eq]

theorem rxByteEvent_v2Supported (b : Byte) (s : State) : (rxByteEvent b s).v2Supported = s.v2Supported := by
  unfold rxByteEvent; split <;> rfl

theorem txAcceptEvent_v2Supported (s : State) : (txAcceptEvent s).v2Supported = s.v2Supported := by
  unfold txAcceptEvent
  split
  · exact finish_v2Supported_of_ne (by split <;> decide) _
  all_goals rfl

theorem tickEvent_v2Supported (s : State) : (tickEvent s).v2Supported = s.v2Supported := by
  unfold tickEvent
  split
  · split
    · exact finish_v2Supported_of_ne (by decide) _
    · rfl
  · rfl

/-! ## The one byte that sets the version flag -/

/-- From `s` to `t` the receive phase of a NEGOTIATE ends with RX_OK_V2, which sets the version flag (R186). -/
def NegotiateEndsRxOkV2 (s t : State) : Prop :=
  s.op = .negotiate ∧ s.fsm = .v2Crc ∧ t.result = .rxOkV2 ∧ t.done = true

/-- The CRC byte of a V2 frame sets the flag when it matches in a NEGOTIATE, and keeps it otherwise (R161, R186). -/
theorem rxV2Crc_v2Supported (b : Byte) {s : State} (hf : s.fsm = .v2Crc) :
    (rxV2Crc b s).v2Supported = s.v2Supported ∨
      (NegotiateEndsRxOkV2 s (rxV2Crc b s) ∧ (rxV2Crc b s).v2Supported = true) := by
  unfold rxV2Crc
  split
  · by_cases ho : s.op = .negotiate
    · exact .inr ⟨⟨ho, hf, rfl, rfl⟩, by simp [ho]⟩
    · exact .inl (by simp [ho])
  · exact .inl (finish_v2Supported_of_ne (by decide) s)

/-- A consumed byte keeps the version flag in every control state but V2_CRC. -/
theorem rxApply_v2Supported {b : Byte} {s t : State} (h : rxApply b s = .next t) :
    t.v2Supported = s.v2Supported ∨ (NegotiateEndsRxOkV2 s t ∧ t.v2Supported = true) := by
  cases hf : s.fsm <;> simp only [rxApply, hf] at h
  case v2Crc => cases h; exact rxV2Crc_v2Supported b hf
  case gotM => exact .inl (rxHeader_v2Supported h)
  case gotX => exact .inl (rxHeader_v2Supported h)
  case v1Payload => unfold rxV1Payload at h; split at h <;> cases h; exact .inl rfl
  case v2Payload => unfold rxV2Payload at h; split at h <;> cases h; exact .inl rfl
  case v1Check =>
    cases h
    unfold rxV1Check
    split <;> exact .inl (finish_v2Supported_of_ne (by decide) _)
  all_goals cases h; exact .inl rfl

/-! ## Events and steps -/

/-- Every event but reset keeps the version flag, or is the RxStep that ends a NEGOTIATE with RX_OK_V2. -/
theorem perform_v2Supported {e : Event} {s t : State} (he : e ≠ .reset) (h : perform e s = .next t) :
    t.v2Supported = s.v2Supported ∨ (e = .rxStep ∧ NegotiateEndsRxOkV2 s t ∧ t.v2Supported = true) := by
  rcases perform_cases h with ⟨-, a, rfl⟩ | ⟨off, n, v, r, -, -, -, -, rfl⟩ | ⟨off, n, v, -, -, -, -, rfl⟩ |
    ⟨w, -, ⟨i, -, hx⟩ | ⟨c, -, rfl⟩⟩ | ⟨b, -, rfl⟩ | ⟨hs, ⟨-, rfl⟩ | ⟨b, q, -, hx⟩⟩ | ⟨-, rfl⟩ | ⟨-, rfl⟩ | ⟨-, rfl⟩ |
    ⟨hr, -⟩
  · exact .inl rfl
  · exact .inl (writeReg_v2Supported r v _)
  · exact .inl (memWrite_v2Supported _ _ v _)
  · have hkeep := exec_v2Supported hx
    exact .inl hkeep
  · exact .inl rfl
  · exact .inl (rxByteEvent_v2Supported b s)
  · exact .inl rfl
  · exact (rxApply_v2Supported hx).imp id (⟨hs, ·⟩)
  · exact .inl (txAcceptEvent_v2Supported s)
  · exact .inl (finish_v2Supported_of_ne (by decide) s)
  · exact .inl (tickEvent_v2Supported s)
  · exact absurd hr he

theorem step_v2Supported {s t : State} (he : (nextEvent s).1 ≠ .reset) (h : step s = .next t) :
    t.v2Supported = s.v2Supported ∨
      ((nextEvent s).1 = .rxStep ∧ NegotiateEndsRxOkV2 s t ∧ t.v2Supported = true) := by
  obtain ⟨q, n, ⟨-, rfl⟩ | ⟨-, hp⟩⟩ := step_next h
  · exact .inl rfl
  · exact perform_v2Supported (s := { s with sched := q, envIdx := n }) he hp

/-- The step over a reset performs it: reset is always enabled (R230). -/
theorem step_of_reset {s t : State} (he : (nextEvent s).1 = .reset) (h : step s = .next t) :
    t = resetEvent (nextEvent s).2 := by
  rw [step, he] at h
  cases h; rfl

/-- Settles O40: by `step_v2Supported`, a step over any event but reset keeps the flag or is the one that may set it. -/
theorem versionFlagIsSticky : Obligations.VersionFlagIsSticky := by
  intro s t h
  by_cases he : (nextEvent s).1 = .reset
  · have hclear : t.v2Supported = false := by rw [step_of_reset he h]; rfl
    exact ⟨fun _ hset => by simp [hclear] at hset, fun _ _ => he, fun _ => hclear⟩
  · rcases step_v2Supported he h with hkeep | ⟨hstep, ⟨hop, hfsm, hres, hdone⟩, hset⟩
    · exact ⟨fun h0 h1 => by simp [hkeep, h0] at h1, fun h1 h0 => by simp [hkeep, h1] at h0, fun hr => absurd hr he⟩
    · exact ⟨fun _ _ => ⟨hop, hfsm, hstep, hres, hdone⟩, fun _ h0 => by simp [hset] at h0, fun hr => absurd hr he⟩

/-! ## The `STATUS` word

Each field is reached by taking off the concatenated fields below it and above it. -/

theorem busy_iff (s : State) : busy s = true ↔ s.fsm ≠ .idle := by simp [busy]

theorem statusWord_codes (s : State) :
    (statusWord s).extractLsb' 0 5 = s.fsm.code ∧ (statusWord s).extractLsb' 8 4 = s.result.code ∧
      (statusWord s).extractLsb' 24 3 = s.errCause.code := by
  simp [statusWord, BitVec.extractLsb'_append_eq_of_le, BitVec.extractLsb'_append_eq_of_add_le, -Nat.reduceAdd]

theorem statusWord_reserved (s : State) :
    (statusWord s).extractLsb' 5 3 = 0#3 ∧ (statusWord s).extractLsb' 19 5 = 0#5 ∧
      (statusWord s).extractLsb' 27 5 = 0#5 := by
  simp [statusWord, BitVec.extractLsb'_append_eq_of_le, BitVec.extractLsb'_append_eq_of_add_le, -Nat.reduceAdd]

theorem statusWord_flags (s : State) :
    (statusWord s).getLsbD 12 = busy s ∧ (statusWord s).getLsbD 13 = s.v2Supported ∧
      (statusWord s).getLsbD 14 = s.rxValid ∧ (statusWord s).getLsbD 15 = s.txV2 ∧
      (statusWord s).getLsbD 16 = s.done ∧ (statusWord s).getLsbD 17 = s.cmdErr ∧
      (statusWord s).getLsbD 18 = s.rxOverrun := by
  simp [statusWord, bit, BitVec.getLsbD_append, -Nat.reduceAdd, -BitVec.getLsbD_eq_getElem]

/-- Settles O46: the numbers of the codes are computed, the fields are those of `statusWord_codes`, `statusWord_reserved`
and `statusWord_flags`. -/
theorem statusWordFields : Obligations.StatusWordFields := by
  refine ⟨by decide, by decide, by decide, fun s => ?_⟩
  obtain ⟨hstate, hresult, hcause⟩ := statusWord_codes s
  obtain ⟨hlow, hmid, htop⟩ := statusWord_reserved s
  obtain ⟨hbusy, hv2, hvalid, htx, hdone, herr, hovr⟩ := statusWord_flags s
  exact ⟨hstate, hlow, hresult, hbusy ▸ busy_iff s, hv2, hvalid, htx, hdone, herr, hovr, hmid, hcause, htop⟩

end Sys2Proof.Machine
end

section
/-! PROOFS. The host window (20_memory.md R52-R62): bus errors change nothing, what an access leaves and what repeating it
does, the operands locked in SENDING, and the byte the RX line offers. -/

namespace Sys2Proof.Machine

/-! ## A host access and its answer -/

theorem step_hostRead (s : State) (off : Word) (n : AccessSize) (es : List Event) :
    step (s.facing (.hostRead off n :: es)) = hostRead off n (s.facing es) := rfl

theorem step_hostWrite (s : State) (off : Word) (n : AccessSize) (v : Word) (es : List Event) :
    step (s.facing (.hostWrite off n v :: es)) = hostWrite off n v (s.facing es) := rfl

theorem readAnswer_of_ok {s : State} {off n : Nat} {d : Word} (h : readWindow s off n = .ok d) :
    readAnswer s off n = .readOkay d := by
  simp only [readAnswer, h]

theorem readAnswer_of_error {s : State} {off n : Nat} {c : BusError} (h : readWindow s off n = .error c) :
    readAnswer s off n = .error c := by
  simp only [readAnswer, h]

theorem hostWrite_of_error {s : State} {off : Word} {n : AccessSize} {c : BusError}
    (h : checkWrite s off.toNat n.bytes = .error c) (v : Word) :
    hostWrite off n v s = .next { s with bus := some (.error c) } := by
  simp only [hostWrite, h]

theorem hostWrite_of_ok {s : State} {off : Word} {n : AccessSize} {tg : Target}
    (h : checkWrite s off.toNat n.bytes = .ok tg) (v : Word) :
    hostWrite off n v s = writeTarget tg n.bytes v { s with bus := some .writeOkay } := by
  simp only [hostWrite, h]

theorem writeTarget_cmd (n : Nat) (w : Word) (s : State) : writeTarget (.reg .cmd) n w s = issueCommand w s := rfl

theorem writeTarget_reg {r : Reg} (hr : r ≠ .cmd) (n : Nat) (v : Word) (s : State) :
    writeTarget (.reg r) n v s = .next (writeReg r v s) := if_neg hr

theorem writeTarget_txb (a n : Nat) (v : Word) (s : State) :
    writeTarget (.txb a) n v s = .next (memWrite s a v n) := rfl

/-- The 4-byte write of `CMD` passes its checks in every state and runs what its word decodes to (R80). -/
theorem hostWrite_cmd {w : Word} {i : Instr} (h : decodeCmd w = .ok i) (s : State) :
    hostWrite cmdOffset .word w s = exec i { s with bus := some .writeOkay } := by
  have hcheck : checkWrite s cmdOffset.toNat AccessSize.word.bytes = .ok (.reg .cmd) := rfl
  rw [hostWrite_of_ok hcheck, writeTarget_cmd]
  simp only [issueCommand, h]

/-! ## What keeps the recorded answer -/

theorem startSend_bus (kind : LongOp) (fam : Family) (s : State) : (startSend kind fam s).bus = s.bus := by
  rcases startSend_cases kind fam s with ⟨r, -, e⟩ | ⟨f, -, e⟩
  · rw [e, finish_bus]
  · rw [e, latchFrame_bus]

/-- No instruction answers a host access. -/
theorem exec_bus {i : Instr} {s t : State} (h : exec i s = .next t) : t.bus = s.bus := by
  rcases exec_cases h with rfl | rfl | ⟨-, rfl⟩ | ⟨d, -, rfl⟩ | ⟨-, rfl⟩ | ⟨d, -, rfl⟩ | ⟨-, kind, fam, -, rfl⟩ |
    ⟨-, -, rfl⟩ | ⟨-, -, rfl⟩ | ⟨-, -, rfl⟩ | ⟨-, -, rfl | rfl | rfl | rfl⟩
  any_goals rfl
  exact startSend_bus kind fam (opBegin s)

theorem writeReg_bus (r : Reg) (v : Word) (s : State) : (writeReg r v s).bus = s.bus := by
  cases r <;> rfl

theorem memWrite_bus (s : State) (a : Nat) (v : Word) (n : Nat) : (memWrite s a v n).bus = s.bus := by
  rw [memWrite_eq]

/-- An allowed write completes and leaves its OKAY recorded. -/
theorem writeTarget_completes (tg : Target) (n : Nat) (v : Word) (s : State) :
    ∃ t, writeTarget tg n v s = .next t ∧ t.bus = s.bus := by
  cases tg with
  | txb a => exact ⟨_, rfl, memWrite_bus s a v n⟩
  | reg r =>
    by_cases hr : r = .cmd
    · subst hr
      rcases issueCommand_cases v s with ⟨i, -, e⟩ | ⟨c, -, e⟩
      · obtain ⟨t, ht⟩ := exec_completes i s
        exact ⟨t, e.trans ht, exec_bus ht⟩
      · exact ⟨_, e, cmdError_bus s c⟩
    · exact ⟨_, writeTarget_reg hr n v s, writeReg_bus r v s⟩

/-- A host write that leaves a bus error recorded changed nothing else: an allowed write leaves OKAY (R59). -/
theorem hostWrite_busError {s t : State} {off : Word} {n : AccessSize} {v : Word} {c : BusError}
    (h : hostWrite off n v s = .next t) (hbus : t.bus = some (.error c)) : t = { s with bus := some (.error c) } := by
  cases hc : checkWrite s off.toNat n.bytes with
  | error c' =>
    rw [hostWrite_of_error hc] at h
    cases h; cases hbus; rfl
  | ok tg =>
    obtain ⟨t', ht', hokay⟩ := writeTarget_completes tg n.bytes v { s with bus := some .writeOkay }
    rw [hostWrite_of_ok hc, ht'] at h
    cases h
    cases hokay.symm.trans hbus

theorem hostRead_busError {s t : State} {off : Word} {n : AccessSize} {c : BusError}
    (h : hostRead off n s = .next t) (hbus : t.bus = some (.error c)) : t = { s with bus := some (.error c) } := by
  cases h
  exact congrArg (fun a => { s with bus := a }) hbus

/-- Settles O42: by `hostRead_busError` and `hostWrite_busError`; the codes are computed. -/
theorem busErrorsChangeNothing : Obligations.BusErrorsChangeNothing := by
  refine ⟨fun s t e c haccess hstep hbus => ⟨?_, rfl⟩, fun d => ⟨rfl, rfl⟩, rfl, rfl⟩
  rcases haccess with ⟨off, n, rfl⟩ | ⟨off, n, v, rfl⟩
  · rw [step_hostRead, facing_nil] at hstep
    exact hostRead_busError (s := { s with bus := none }) hstep hbus
  · rw [step_hostWrite, facing_nil] at hstep
    exact hostWrite_busError (s := { s with bus := none }) hstep hbus

/-! ## A host write neither reads nor moves the schedule -/

theorem build_facing (fam : Family) (s : State) (es : List Event) : build fam (s.facing es) = build fam s :=
  build_congr fam rfl rfl fun _ _ _ => rfl

theorem startSend_facing (kind : LongOp) (fam : Family) (s : State) (es : List Event) :
    startSend kind fam (s.facing es) = (startSend kind fam s).facing es := by
  simp only [startSend, build_facing]
  split <;> rfl

theorem whenIdle_facing {run : State → State} {s : State} {es : List Event}
    (hrun : run (s.facing es) = (run s).facing es) : whenIdle run (s.facing es) = (whenIdle run s).facing es := by
  rcases whenIdle_cases run s with ⟨hidle, e⟩ | ⟨hbusy, e⟩
  · rw [e, ← hrun]; exact if_pos hidle
  · rw [e]; exact if_neg hbusy

theorem atHeader_facing {f : Fsm} {run : State → State} {s : State} {es : List Event}
    (hrun : run (s.facing es) = (run s).facing es) : atHeader f run (s.facing es) = (atHeader f run s).facing es := by
  rcases atHeader_cases f run s with ⟨hhere, e⟩ | ⟨helse, e⟩
  · rw [e, ← hrun]; exact if_pos hhere
  · rw [e]; exact if_neg helse

theorem exec_facing {i : Instr} {s t : State} (h : exec i s = .next t) (es : List Event) :
    exec i (s.facing es) = .next (t.facing es) := by
  cases i with
  | nop | crcClr | crcByte | xorClr | xorByte => cases h; rfl
  | send | transact | negotiate =>
    cases h
    refine congrArg Host.Outcome.next (whenIdle_facing ?_)
    exact startSend_facing _ _ (opBegin s) es
  | receive | flushRx => cases h; exact congrArg _ (whenIdle_facing rfl)
  | abort =>
    cases h
    simp only [apply_ite (State.facing · es)]
    rfl
  | hdrV1Request | hdrV2Request | hdrV1Response | hdrV1Error | hdrV2Response =>
    cases h; exact congrArg _ (atHeader_facing rfl)

theorem issueCommand_facing {w : Word} {s t : State} (h : issueCommand w s = .next t) (es : List Event) :
    issueCommand w (s.facing es) = .next (t.facing es) := by
  cases hw : decodeCmd w with
  | ok i => simp only [issueCommand, hw] at h ⊢; exact exec_facing h es
  | error e => simp only [issueCommand, hw] at h ⊢; cases h; rfl

theorem writeReg_facing (r : Reg) (v : Word) (s : State) (es : List Event) :
    writeReg r v (s.facing es) = (writeReg r v s).facing es := by
  cases r <;> rfl

theorem memWrite_facing (s : State) (a : Nat) (v : Word) (n : Nat) (es : List Event) :
    memWrite (s.facing es) a v n = (memWrite s a v n).facing es := by
  induction n with
  | zero => rfl
  | succ n ih => rw [memWrite, ih]; rfl

theorem writeTarget_facing {tg : Target} {n : Nat} {v : Word} {s t : State} (h : writeTarget tg n v s = .next t)
    (es : List Event) : writeTarget tg n v (s.facing es) = .next (t.facing es) := by
  cases tg with
  | txb a => cases h; exact congrArg _ (memWrite_facing s a v n es)
  | reg r =>
    by_cases hr : r = .cmd
    · subst hr; exact issueCommand_facing h es
    · rw [writeTarget_reg hr] at h ⊢
      cases h; exact congrArg _ (writeReg_facing r v s es)

/-- The check of a write reads the control state only (R57). -/
theorem checkWrite_congr {s t : State} (h : t.fsm = s.fsm) (off n : Nat) : checkWrite t off n = checkWrite s off n := by
  simp only [checkWrite, h]

theorem hostWrite_facing {off : Word} {n : AccessSize} {v : Word} {s t : State} (h : hostWrite off n v s = .next t)
    (es : List Event) : hostWrite off n v (s.facing es) = .next (t.facing es) := by
  have hcheck := checkWrite_congr (s := s) (t := s.facing es) rfl off.toNat n.bytes
  cases hc : checkWrite s off.toNat n.bytes with
  | error c =>
    rw [hostWrite_of_error hc] at h
    cases h; exact hostWrite_of_error (hcheck.trans hc) v
  | ok tg =>
    rw [hostWrite_of_ok hc] at h
    rw [hostWrite_of_ok (hcheck.trans hc)]
    exact writeTarget_facing h es

/-! ## Repeating a write -/

theorem writeReg_fsm (r : Reg) (v : Word) (s : State) : (writeReg r v s).fsm = s.fsm := by
  cases r <;> rfl

theorem memWrite_fsm (s : State) (a : Nat) (v : Word) (n : Nat) : (memWrite s a v n).fsm = s.fsm := by
  rw [memWrite_eq]

/-- The flags a write clears stay cleared; every other register stores the value again. -/
theorem writeReg_writeReg (r : Reg) (v : Word) (s : State) : writeReg r v (writeReg r v s) = writeReg r v s := by
  cases r
  case status => simp [writeReg, writeStatus]
  all_goals rfl

theorem writeByte_writeByte_same (s : State) (a : Nat) (b b' : Byte) :
    writeByte (writeByte s a b) a b' = writeByte s a b' := by
  simp only [writeByte, Memory.put_put_same]

theorem writeByte_writeByte_comm (s : State) {a a' : Nat} (b b' : Byte) (h : a ≠ a') :
    writeByte (writeByte s a b) a' b' = writeByte (writeByte s a' b') a b := by
  simp only [writeByte, Memory.put_put_comm _ _ _ h]

/-- A byte at or past the end of a wide write may be written before it. -/
theorem memWrite_writeByte_comm (s : State) {a a' : Nat} (v : Word) {n : Nat} (b : Byte) (h : a + n ≤ a') :
    memWrite (writeByte s a' b) a v n = writeByte (memWrite s a v n) a' b := by
  induction n with
  | zero => rfl
  | succ n ih => rw [memWrite, ih (by omega), writeByte_writeByte_comm _ _ _ (by omega)]; rfl

theorem memWrite_memWrite (s : State) (a : Nat) (v : Word) (n : Nat) :
    memWrite (memWrite s a v n) a v n = memWrite s a v n := by
  induction n with
  | zero => rfl
  | succ n ih =>
    calc memWrite (memWrite s a v (n + 1)) a v (n + 1)
        = writeByte (memWrite (writeByte (memWrite s a v n) (a + n) _) a v n) (a + n) _ := rfl
      _ = writeByte (writeByte (memWrite s a v n) (a + n) _) (a + n) _ := by
          rw [memWrite_writeByte_comm _ _ _ (Nat.le_refl _), ih]
      _ = memWrite s a v (n + 1) := writeByte_writeByte_same _ _ _ _

/-- Writing anything but `CMD` keeps the control state and the answer, and writing it again changes nothing. -/
theorem writeTarget_repeat {tg : Target} (htg : tg ≠ .reg .cmd) (n : Nat) (v : Word) (s : State) :
    ∃ t, writeTarget tg n v s = .next t ∧ t.fsm = s.fsm ∧ t.bus = s.bus ∧ writeTarget tg n v t = .next t := by
  cases tg with
  | txb a =>
    exact ⟨_, rfl, memWrite_fsm s a v n, memWrite_bus s a v n,
      congrArg Host.Outcome.next (memWrite_memWrite s a v n)⟩
  | reg r =>
    have hr : r ≠ .cmd := fun e => htg (congrArg _ e)
    refine ⟨_, writeTarget_reg hr n v s, writeReg_fsm r v s, writeReg_bus r v s, ?_⟩
    rw [writeTarget_reg hr, writeReg_writeReg]

/-- A host write of anything but `CMD` leads to a state the same write leaves as it is (R61). -/
theorem hostWrite_repeat {off : Word} (hoff : off ≠ cmdOffset) (n : AccessSize) (v : Word) (s : State) :
    ∃ t, hostWrite off n v s = .next t ∧ hostWrite off n v t = .next t := by
  cases hc : checkWrite s off.toNat n.bytes with
  | error c => exact ⟨_, hostWrite_of_error hc v, hostWrite_of_error hc v⟩
  | ok tg =>
    have htg : tg ≠ .reg .cmd := by
      rintro rfl
      exact hoff (checkWrite_cmd hc).1
    obtain ⟨t, ht, hfsm, hbus, hagain⟩ := writeTarget_repeat htg n.bytes v { s with bus := some .writeOkay }
    have hsame : { t with bus := some .writeOkay } = t := congrArg (fun a => { t with bus := a }) hbus.symm
    refine ⟨t, (hostWrite_of_ok hc v).trans ht, ?_⟩
    rw [hostWrite_of_ok ((checkWrite_congr hfsm _ _).trans hc), hsame, hagain]

/-- The first of two scheduled writes leaves the second to the state it leads to. -/
theorem run_two_hostWrites {off : Word} {n : AccessSize} {v : Word} {s t : State} (h : hostWrite off n v s = .next t) :
    Host.Core.run core 2 (s.facing [.hostWrite off n v, .hostWrite off n v]) = hostWrite off n v t := by
  have hfirst : step (s.facing [.hostWrite off n v, .hostWrite off n v]) = .next (t.facing [.hostWrite off n v]) :=
    hostWrite_facing h [.hostWrite off n v]
  rw [run_succ 1 hfirst, run_one, step_hostWrite, facing_nil]

/-- Settles O43: a read records its answer only; a write is refused or completes as its check says; a repeated write
finds a state it leaves as it is, by `hostWrite_repeat`, or issues its command again, by `hostWrite_cmd`. -/
theorem accessSideEffects : Obligations.AccessSideEffects := by
  refine ⟨fun s off n => ⟨rfl, fun d hd => readAnswer_of_ok hd, fun c hc => readAnswer_of_error hc⟩,
    fun s off n v => ⟨fun c hc => ?_, fun tg htg => ?_⟩, fun s off n v hoff => ?_, fun s w i hw => ?_⟩
  · exact hostWrite_of_error hc v
  · rw [step_hostWrite, facing_nil, hostWrite_of_ok htg]
    exact writeTarget_completes tg n.bytes v { s with bus := some .writeOkay }
  · obtain ⟨t, hs, hagain⟩ := hostWrite_repeat hoff n v s
    rw [run_two_hostWrites hs, run_one, step_hostWrite, facing_nil, hs, hagain]
  · obtain ⟨t, ht⟩ := exec_completes i { s with bus := some .writeOkay }
    rw [run_two_hostWrites ((hostWrite_cmd hw s).trans ht), hostWrite_cmd hw, ht]

/-! ## Writes in SENDING -/

theorem locate_txb {off n : Nat} (hlo : 0x10000 ≤ off) (hhi : off < 0x20000) (halign : off % n = 0) :
    locate off n = .ok .txb := by
  have hreg : ¬off < 0x100 := by omega
  simp [locate, regionAt, hreg, hlo, hhi, halign]

/-- An aligned write inside TX_BUF answers LOCKED in SENDING (R57). -/
theorem checkWrite_txb_sending {s : State} {off n : Nat} (hs : s.fsm = .sending) (hn : 0 < n) (hlo : 0x10000 ≤ off)
    (hhi : off + n ≤ 0x1FFFF) (halign : off % n = 0) : checkWrite s off n = .error .locked := by
  have hrange : ¬bufLen < off - txBase + n := by unfold bufLen txBase; omega
  simp [checkWrite, locate_txb hlo (by omega) halign, hrange, hs]

/-- `TX_CODE` and `TX_SIZE` answer LOCKED in SENDING (R57). -/
theorem checkWrite_locked_sending {s : State} {off : Nat} (hs : s.fsm = .sending) (hoff : off = 0x010 ∨ off = 0x014) :
    checkWrite s off 4 = .error .locked := by
  rcases hoff with rfl | rfl <;>
    simp [checkWrite, locate, regionAt, locateReg, regAt, Reg.readOnly, Reg.lockedInSending, hs]

theorem AccessSize.bytes_pos (n : AccessSize) : 0 < n.bytes := by cases n <;> decide

/-- From `s` to `t` the offered frame, its operands and the control state stay (R57). -/
def KeepsOffer (s t : State) : Prop :=
  t.fsm = s.fsm ∧ t.txCode = s.txCode ∧ t.txSize = s.txSize ∧ t.txFrame = s.txFrame ∧ t.mem = s.mem ∧ t.draw = s.draw

theorem KeepsOffer.refl (s : State) : KeepsOffer s s := ⟨rfl, rfl, rfl, rfl, rfl, rfl⟩

/-- In SENDING an instruction does nothing, changes its accumulator or is refused. -/
theorem exec_keepsOffer {i : Instr} {s t : State} (hs : s.fsm = .sending) (h : exec i s = .next t) :
    KeepsOffer s t := by
  rcases exec_cases h with rfl | rfl | ⟨-, rfl⟩ | ⟨d, -, rfl⟩ | ⟨-, rfl⟩ | ⟨d, -, rfl⟩ | ⟨hidle, -⟩ |
    ⟨hidle, -⟩ | ⟨hrx, -⟩ | ⟨hidle, -⟩ | ⟨hgot, -⟩
  any_goals exact .refl _
  · simp [hs] at hidle
  · simp [hs] at hidle
  · simp [hs, Fsm.isRx] at hrx
  · simp [hs] at hidle
  · simp [hs] at hgot

theorem writeReg_keepsOffer {r : Reg} (hr : r.lockedInSending = false) (v : Word) (s : State) :
    KeepsOffer s (writeReg r v s) := by
  cases r
  case txCode | txSize => cases hr
  all_goals exact .refl s

/-- No host write changes an offered frame or its operands (R57). -/
theorem hostWrite_keepsOffer {off : Word} {n : AccessSize} {v : Word} {s t : State} (hs : s.fsm = .sending)
    (h : perform (.hostWrite off n v) s = .next t) : KeepsOffer s t := by
  rcases perform_cases h with ⟨-, a, rfl⟩ | ⟨_, _, v', r, -, -, -, hlk, rfl⟩ | ⟨_, _, _, -, -, -, hns, -⟩ |
    ⟨w, -, ⟨i, -, hx⟩ | ⟨c, -, rfl⟩⟩ | ⟨b, he, -⟩ | ⟨he, -⟩ | ⟨he, -⟩ | ⟨he, -⟩ | ⟨he, -⟩ | ⟨he, -⟩
  · exact .refl s
  · have hr : r.lockedInSending = false := by simpa [hs] using hlk
    exact writeReg_keepsOffer hr v' { s with bus := some .writeOkay }
  · exact absurd hs hns
  · exact exec_keepsOffer (s := { s with bus := some .writeOkay }) hs hx
  · exact .refl s
  all_goals cases he

/-- Settles O49: the checks answer LOCKED, and `hostWrite_keepsOffer` covers every other write. -/
theorem sendingLocksFrameOperands : Obligations.SendingLocksFrameOperands := by
  refine ⟨fun s off v n hs hoff => ?_, fun s t off v n hs hstep => ?_⟩
  · rcases hoff with ⟨hreg, rfl⟩ | ⟨hlo, hhi, halign⟩
    · have hnat : off.toNat = 0x010 ∨ off.toNat = 0x014 := by rcases hreg with rfl | rfl <;> decide
      exact hostWrite_of_error (checkWrite_locked_sending hs hnat) v
    · exact hostWrite_of_error (checkWrite_txb_sending hs n.bytes_pos hlo hhi halign) v
  · obtain ⟨hfsm, hcode, hsize, hframe, hmem, hdraw⟩ := hostWrite_keepsOffer hs hstep
    exact ⟨hfsm.trans hs, hcode, hsize, hframe, fun o _ => readByte_congr hmem hdraw _⟩

/-! ## The byte the RX line offers -/

theorem rxByteEvent_of_room (b : Byte) {s : State} (h : s.rxfifo.length < Config.rxFifoDepth) :
    rxByteEvent b s = { s with rxfifo := s.rxfifo ++ [b] } := if_pos h

theorem rxByteEvent_of_full (b : Byte) {s : State} (h : Config.rxFifoDepth ≤ s.rxfifo.length) :
    rxByteEvent b s = { s with rxOverrun := true } := if_neg (Nat.not_lt.mpr h)

theorem step_rxByte (s : State) (b : Byte) : step (s.facing [.rxByte b]) = .next (rxByteEvent b s) := rfl

/-- Settles O37: RxByte is enabled in every state, and the FIFO has room or is full. -/
theorem rxByteIsKeptOrDropped : Obligations.RxByteIsKeptOrDropped := by
  refine fun s b => ⟨fun hroom => ?_, fun hfull => ?_, rfl⟩
  · rw [step_rxByte, rxByteEvent_of_room b hroom]
  · rw [step_rxByte, rxByteEvent_of_full b hfull]

end Sys2Proof.Machine
end

section
/-! PROOFS. The integrity functions (40_integrity.md R100-R104): one bit flipped in one byte changes `fold_xor` in that
bit, and changes `crc8`, whose bit steps are linear and injective. -/

namespace Sys2Proof.Machine

/-! ## A fold over a sequence with one byte replaced -/

/-- The bytes before the replaced one give a running value, the ones after it act on the result. -/
theorem foldl_set_eq {α β : Type} (f : α → β → α) (c : α) {m : List β} {i : Nat} (h : i < m.length) (b : β) :
    (m.set i b).foldl f c = (m.drop (i + 1)).foldl f (f ((m.take i).foldl f c) b) := by
  rw [List.set_eq_take_append_cons_drop, if_pos h, List.foldl_append, List.foldl_cons]

theorem foldl_eq_at {α β : Type} (f : α → β → α) (c : α) {m : List β} {i : Nat} (h : i < m.length) :
    m.foldl f c = (m.drop (i + 1)).foldl f (f ((m.take i).foldl f c) m[i]) := by
  rw [← foldl_set_eq f c h m[i], List.set_getElem_self h]

/-! ## `fold_xor` -/

theorem foldl_xor_start (m : List Byte) (c d : Byte) :
    m.foldl (fun x b => x ^^^ b) (c ^^^ d) = m.foldl (fun x b => x ^^^ b) c ^^^ d := by
  rw [BitVec.xor_comm c d, BitVec.xor_comm _ d]
  exact List.foldl_assoc (op := fun x b : Byte => x ^^^ b)

/-- A change of one byte is that change of `fold_xor` (R104 a). -/
theorem foldXor_set_xor {m : List Byte} {i : Nat} (h : i < m.length) (d : Byte) :
    foldXor (m.set i (m[i] ^^^ d)) = foldXor m ^^^ d := by
  rw [foldXor, foldXor, foldl_set_eq _ _ h, foldl_eq_at _ _ h, ← BitVec.xor_assoc, foldl_xor_start]

/-! ## `crc8`: each bit step is linear and injective -/

theorem crcBit_eq (c : Byte) : crcBit c = (c <<< 1) ^^^ (if c.getLsbD 7 then 0xD5#8 else 0#8) := by
  unfold crcBit
  split <;> simp

theorem crcBit_xor (a b : Byte) : crcBit (a ^^^ b) = crcBit a ^^^ crcBit b := by
  have hpoly : (if (a ^^^ b).getLsbD 7 then 0xD5#8 else 0#8)
      = (if a.getLsbD 7 then 0xD5#8 else 0#8) ^^^ (if b.getLsbD 7 then 0xD5#8 else 0#8) := by
    rw [BitVec.getLsbD_xor]
    cases a.getLsbD 7 <;> cases b.getLsbD 7 <;> decide
  rw [crcBit_eq, crcBit_eq a, crcBit_eq b, hpoly, BitVec.shiftLeft_xor_distrib]
  ac_rfl

/-- The shift leaves bit 0 clear and the polynomial sets it, so bit 0 of a bit step tells the bit shifted out. -/
theorem crcBit_low (c : Byte) : (crcBit c).getLsbD 0 = c.getLsbD 7 := by
  have hpoly : (if c.getLsbD 7 then 0xD5#8 else 0#8).getLsbD 0 = c.getLsbD 7 := by cases c.getLsbD 7 <;> decide
  rw [crcBit_eq, BitVec.getLsbD_xor, hpoly, BitVec.getLsbD_shiftLeft]
  simp

theorem crcBit_eq_zero {c : Byte} (h : crcBit c = 0#8) : c = 0#8 := by
  have htop : c.getLsbD 7 = false := by rw [← crcBit_low, h]; rfl
  have hshift : c <<< 1 = 0#8 := by rw [← h, crcBit, htop, if_neg Bool.false_ne_true]
  have hsmall : 2 * c.toNat < 2 ^ 8 :=
    BitVec.msb_eq_false_iff_two_mul_lt.mp ((BitVec.msb_eq_getLsbD_last c).trans htop)
  bv_omega

theorem crcBit_injective : Function.Injective crcBit := by
  intro a b h
  have hdiff : crcBit (a ^^^ b) = 0#8 := by rw [crcBit_xor, h, BitVec.xor_self]
  exact BitVec.xor_eq_zero_iff.mp (crcBit_eq_zero hdiff)

theorem crcBits_xor (k : Nat) (a b : Byte) : crcBits k (a ^^^ b) = crcBits k a ^^^ crcBits k b := by
  induction k generalizing a b with
  | zero => rfl
  | succ k ih => simp only [crcBits, crcBit_xor, ih]

theorem crcBits_injective (k : Nat) : Function.Injective (crcBits k) := by
  induction k with
  | zero => exact Function.injective_id
  | succ k ih => exact ih.comp crcBit_injective

theorem crc8Step_xor (a b x y : Byte) : crc8Step (a ^^^ b) (x ^^^ y) = crc8Step a x ^^^ crc8Step b y := by
  rw [crc8Step, crc8Step, crc8Step, ← crcBits_xor]
  congr 1
  ac_rfl

theorem crc8Step_injective_left (b : Byte) : Function.Injective (crc8Step · b) := fun _ _ h =>
  (BitVec.xor_left_inj _).mp (crcBits_injective 8 h)

theorem crc8Step_injective_right (c : Byte) : Function.Injective (crc8Step c) := fun _ _ h =>
  (BitVec.xor_right_inj _).mp (crcBits_injective 8 h)

theorem foldl_crc8Step_zipWith_xor {m e : List Byte} (h : m.length = e.length) (a b : Byte) :
    (List.zipWith (fun x y => x ^^^ y) m e).foldl crc8Step (a ^^^ b) = m.foldl crc8Step a ^^^ e.foldl crc8Step b := by
  induction m generalizing e a b with
  | nil => cases List.eq_nil_of_length_eq_zero h.symm; rfl
  | cons x m ih =>
    cases e with
    | nil => cases h
    | cons y e =>
      simp only [List.zipWith_cons_cons, List.foldl_cons, crc8Step_xor]
      exact ih (Nat.succ.inj h) _ _

/-- Two running values that differ still differ after the same bytes. -/
theorem foldl_crc8Step_injective (m : List Byte) : Function.Injective (m.foldl crc8Step) := by
  induction m with
  | nil => exact Function.injective_id
  | cons b m ih => exact ih.comp (crc8Step_injective_left b)

/-- Replacing one byte by any other changes `crc8`: the running values differ from there to the end (R104 b). -/
theorem crc8_set_ne {m : List Byte} {i : Nat} (h : i < m.length) {b : Byte} (hb : b ≠ m[i]) :
    crc8 (m.set i b) ≠ crc8 m := by
  rw [crc8, crc8, foldl_set_eq _ _ h, foldl_eq_at _ _ h]
  exact fun heq => hb (crc8Step_injective_right _ (foldl_crc8Step_injective _ heq))

theorem byte_flip_ne (b : Byte) (j : Fin 8) : b ^^^ (1#8 <<< j.val) ≠ b := by
  have hbit : 1#8 <<< j.val ≠ 0#8 := by revert j; decide
  exact fun h => hbit ((BitVec.xor_right_inj b).mp (h.trans BitVec.xor_zero.symm))

/-- Settles O10: a replaced byte's change passes through `fold_xor` (`foldXor_set_xor`), `crc8` folds linear steps from
0 (`foldl_crc8Step_zipWith_xor`), and any other byte in a byte's place changes `crc8` (`crc8_set_ne`). -/
theorem singleBitErrorsDetected : Obligations.SingleBitErrorsDetected :=
  ⟨fun _ _ j h => foldXor_set_xor h (1#8 <<< j.val),
    fun _ _ hlen => foldl_crc8Step_zipWith_xor hlen 0#8 0#8,
    fun _ _ j h => crc8_set_ne h (byte_flip_ne _ j)⟩

end Sys2Proof.Machine
end

section
/-! PROOFS. Frames and sending (41_transmit.md): the encoders' layout and lengths, what `build` answers, the family choice,
what the TX sink's two answers do, and that only request frames reach the wire. -/

namespace Sys2Proof.Machine

/-! ## What reaches the wire

Only TxAccept adds to `wire_tx`; every other operation keeps it. -/

theorem startSend_wireTx (kind : LongOp) (fam : Family) (s : State) : (startSend kind fam s).wireTx = s.wireTx := by
  rcases startSend_cases kind fam s with ⟨r, -, e⟩ | ⟨f, -, e⟩
  · rw [e, finish_wireTx]
  · rw [e, latchFrame_wireTx]

/-- No instruction puts a frame on the wire: a sending command only offers it (R127). -/
theorem exec_wireTx {i : Instr} {s t : State} (h : exec i s = .next t) : t.wireTx = s.wireTx := by
  rcases exec_cases h with rfl | rfl | ⟨-, rfl⟩ | ⟨d, -, rfl⟩ | ⟨-, rfl⟩ | ⟨d, -, rfl⟩ | ⟨-, kind, fam, -, rfl⟩ |
    ⟨-, -, rfl⟩ | ⟨-, -, rfl⟩ | ⟨-, -, rfl⟩ | ⟨-, -, rfl | rfl | rfl | rfl⟩
  any_goals rfl
  exact startSend_wireTx kind fam (opBegin s)

theorem rxHeader_wireTx {b1 b2 : Byte} {s t : State} (h : rxHeader b1 b2 s = .next t) : t.wireTx = s.wireTx := by
  rcases rxHeader_cases b1 b2 s with ⟨i, -, e⟩ | e
  · exact exec_wireTx (e ▸ h)
  · cases e.symm.trans h; rfl

theorem rxApply_wireTx {b : Byte} {s t : State} (h : rxApply b s = .next t) : t.wireTx = s.wireTx := by
  cases hf : s.fsm <;> simp only [rxApply, hf] at h
  case gotM => exact rxHeader_wireTx h
  case gotX => exact rxHeader_wireTx h
  case v1Payload => unfold rxV1Payload at h; split at h <;> cases h; rfl
  case v2Payload => unfold rxV2Payload at h; split at h <;> cases h; rfl
  case v1Check => cases h; unfold rxV1Check; split <;> rfl
  case v2Crc => cases h; unfold rxV2Crc; split <;> rfl
  all_goals cases h; rfl

theorem writeReg_wireTx (r : Reg) (v : Word) (s : State) : (writeReg r v s).wireTx = s.wireTx := by
  cases r <;> rfl

theorem memWrite_wireTx (s : State) (a : Nat) (v : Word) (n : Nat) : (memWrite s a v n).wireTx = s.wireTx := by
  rw [memWrite_eq]

theorem rxByteEvent_wireTx (b : Byte) (s : State) : (rxByteEvent b s).wireTx = s.wireTx := by
  unfold rxByteEvent; split <;> rfl

theorem tickEvent_wireTx (s : State) : (tickEvent s).wireTx = s.wireTx := by
  unfold tickEvent
  split
  · split <;> rfl
  · rfl

/-- The accepted frame joins the wire whole, whatever operation sent it (R128). -/
theorem txAcceptEvent_wireTx (s : State) : (txAcceptEvent s).wireTx = s.wireTx ++ [s.txFrame] := by
  unfold txAcceptEvent; split <;> rfl

theorem perform_wireTx {e : Event} {s t : State} (h : perform e s = .next t) :
    t.wireTx = s.wireTx ∨ (e = .txAccept ∧ t.wireTx = s.wireTx ++ [s.txFrame]) := by
  rcases perform_cases h with ⟨-, a, rfl⟩ | ⟨off, n, v, r, -, -, -, -, rfl⟩ | ⟨off, n, v, -, -, -, -, rfl⟩ |
    ⟨w, -, ⟨i, -, hx⟩ | ⟨c, -, rfl⟩⟩ | ⟨b, -, rfl⟩ | ⟨-, ⟨-, rfl⟩ | ⟨b, q, -, hx⟩⟩ | ⟨he, rfl⟩ | ⟨-, rfl⟩ | ⟨-, rfl⟩ |
    ⟨-, rfl⟩
  · exact .inl rfl
  · exact .inl (writeReg_wireTx r v _)
  · exact .inl (memWrite_wireTx _ _ v _)
  · have hkeep := exec_wireTx hx
    exact .inl hkeep
  · exact .inl rfl
  · exact .inl (rxByteEvent_wireTx b s)
  · exact .inl rfl
  · have hkeep := rxApply_wireTx hx
    exact .inl hkeep
  · exact .inr ⟨he, txAcceptEvent_wireTx s⟩
  · exact .inl rfl
  · exact .inl (tickEvent_wireTx s)
  · exact .inl rfl

/-- Every step keeps `wire_tx` or is the TxAccept in SENDING that appends the offered frame. -/
theorem step_wireTx {s t : State} (h : step s = .next t) :
    t.wireTx = s.wireTx ∨ ((nextEvent s).1 = .txAccept ∧ s.fsm = .sending ∧ t.wireTx = s.wireTx ++ [s.txFrame]) := by
  obtain ⟨q, n, ⟨-, rfl⟩ | ⟨hen, hp⟩⟩ := step_next h
  · exact .inl rfl
  · refine (perform_wireTx hp).imp id fun ⟨he, happend⟩ => ⟨he, ?_, happend⟩
    rw [he] at hen
    exact of_decide_eq_true hen

/-! ## Request frames -/

/-- The frames `build` gives carry a request header (R120, R121). -/
theorem isRequest_of_build {fam : Family} {s : State} {f : List Byte} (h : build fam s = .ok f) : IsRequest f := by
  rcases build_cases fam s with ⟨r, hr, -⟩ | ⟨g, hg, -, -, hform⟩
  · cases h.symm.trans hr
  · cases h.symm.trans hg
    rcases hform with rfl | rfl
    · exact .inl rfl
    · exact .inr rfl

/-- Settles O21: a step adds only the offered frame to the wire (`step_wireTx`), and that frame is one `build` gave. -/
theorem onlyRequestsAreSent : Obligations.OnlyRequestsAreSent := by
  intro s t hlatched hsent hstep f hf
  rcases step_wireTx hstep with hkeep | ⟨-, hsending, happend⟩
  · exact hsent f (hkeep ▸ hf)
  · rw [happend, List.mem_append, List.mem_singleton] at hf
    rcases hf with hold | rfl
    · exact hsent f hold
    · exact isRequest_of_build (hlatched hsending)

/-! ## Frame lengths and coverage -/

/-- The checksum of a V1 frame is `fold_xor` of the bytes before it, the header left out (R103). -/
theorem foldXor_size_code_payload (n k : Byte) (p : List Byte) : n ^^^ k ^^^ foldXor p = foldXor ([n, k] ++ p) :=
  calc n ^^^ k ^^^ foldXor p
      = foldXor p ^^^ (n ^^^ k) := BitVec.xor_comm _ _
    _ = p.foldl (fun x b => x ^^^ b) (0#8 ^^^ (n ^^^ k)) := (foldl_xor_start p 0#8 (n ^^^ k)).symm
    _ = foldXor ([n, k] ++ p) := by rw [← BitVec.xor_assoc]; rfl

/-- A V1 frame as its header, the bytes its checksum covers, and the checksum. -/
theorem encV1_eq (k : Byte) (p : List Byte) :
    encV1 k p = encode .hdrV1Request ++ ([BitVec.ofNat 8 p.length, k] ++ p)
      ++ [foldXor ([BitVec.ofNat 8 p.length, k] ++ p)] := by
  rw [← foldXor_size_code_payload]; rfl

/-- Behind a three-byte header the covered bytes are those up to the last one. -/
theorem take_drop_header {hdr : List Byte} (h : hdr.length = 3) (body : List Byte) (c : Byte) :
    ((hdr ++ body ++ [c]).drop 3).take body.length = body := by
  rw [← h, List.append_assoc, List.drop_left, List.take_left]

/-- Settles O13: both frames are a header, the covered bytes and the integrity byte, so `take_drop_header` gives the
coverage; the checksum is `foldXor_size_code_payload`. -/
theorem frameLengthsAndCoverage : Obligations.FrameLengthsAndCoverage := by
  refine ⟨fun k p => ⟨encV1_length k p, fun hp => ?_, ?_⟩, fun k p => ⟨encV2_length k p, fun hp => ?_, ?_⟩,
    foldXor_size_code_payload⟩
  · rw [encV1_length]; omega
  · have hcovered : ((encV1 k p).drop 3).take (p.length + 2) = [BitVec.ofNat 8 p.length, k] ++ p := by
      rw [encV1_eq]
      exact take_drop_header (hdr := encode .hdrV1Request) rfl ([BitVec.ofNat 8 p.length, k] ++ p) _
    rw [hcovered, encV1_eq, List.getLast?_concat]
  · rw [encV2_length]; omega
  · have hcovered : ((encV2 k p).drop 3).take (p.length + 5) = v2Body 0x00#8 k p :=
      take_drop_header (hdr := encode .hdrV2Request) rfl (v2Body 0x00#8 k p) _
    rw [hcovered, encV2, List.getLast?_concat]

/-! ## `build`: one equation per outcome (R125) -/

theorem build_v2_of_large {s : State} (hn : 65535 < s.txSize.toNat) : build .v2 s = .error .payloadTooLarge :=
  if_pos hn

theorem build_v2_of_fits {s : State} (hn : s.txSize.toNat ≤ 65535) :
    build .v2 s = .ok (encV2 s.txCode (txPayload s s.txSize.toNat)) := if_neg (Nat.not_lt.mpr hn)

theorem build_v1_of_large {s : State} (hn : 255 < s.txSize.toNat) : build .v1 s = .error .payloadTooLarge :=
  if_pos hn

theorem build_v1_of_largeCode {s : State} (hn : s.txSize.toNat ≤ 255) (hc : 255 < s.txCode.toNat) :
    build .v1 s = .error .codeTooLarge := (if_neg (Nat.not_lt.mpr hn)).trans (if_pos hc)

theorem build_v1_of_fits {s : State} (hn : s.txSize.toNat ≤ 255) (hc : s.txCode.toNat ≤ 255) :
    build .v1 s = .ok (encV1 (lo8 s.txCode) (txPayload s s.txSize.toNat)) :=
  (if_neg (Nat.not_lt.mpr hn)).trans (if_neg (Nat.not_lt.mpr hc))

/-- Settles O14: the five equations of `build`. -/
theorem buildChecksSizeThenCode : Obligations.BuildChecksSizeThenCode := fun _ =>
  ⟨build_v2_of_large, build_v2_of_fits, build_v1_of_large, build_v1_of_largeCode, build_v1_of_fits⟩

theorem build_v1_bounds {s : State} {f : List Byte} (h : build .v1 s = .ok f) :
    s.txSize.toNat ≤ 255 ∧ s.txCode.toNat ≤ 255 := by
  rcases Nat.lt_or_ge 255 s.txSize.toNat with hlarge | hn
  · cases (build_v1_of_large hlarge).symm.trans h
  · rcases Nat.lt_or_ge 255 s.txCode.toNat with hlarge | hc
    · cases (build_v1_of_largeCode hn hlarge).symm.trans h
    · exact ⟨hn, hc⟩

theorem build_v2_bound {s : State} {f : List Byte} (h : build .v2 s = .ok f) : s.txSize.toNat ≤ 65535 := by
  rcases Nat.lt_or_ge 65535 s.txSize.toNat with hlarge | hn
  · cases (build_v2_of_large hlarge).symm.trans h
  · exact hn

/-- Settles O12: the layouts are the encoders' definitions written out byte by byte; the bounds are those under which
`build` does not refuse. -/
theorem encodersLayOutFrames : Obligations.EncodersLayOutFrames :=
  ⟨fun _ _ => rfl, fun _ _ => rfl, fun _ _ => build_v1_bounds, fun _ _ => build_v2_bound⟩

/-! ## The family choice (R124) -/

theorem useV2_iff (s : State) (f : Bool) :
    useV2 s f = true ↔ s.v2Supported = true ∧ f = false ∧ s.txSize.toNat ≤ 65535 := by
  simp [useV2, and_assoc]

theorem chooseFamily_eq_v2_iff (s : State) (f : Bool) : chooseFamily s f = .v2 ↔ useV2 s f = true := by
  simp [chooseFamily]

theorem chooseFamily_eq_v1_iff (s : State) (f : Bool) : chooseFamily s f = .v1 ↔ ¬useV2 s f = true := by
  simp [chooseFamily]

theorem whenIdle_of_idle {s : State} (h : s.fsm = .idle) (run : State → State) : whenIdle run s = run s := if_pos h

/-- Settles O15: `useV2` is the conjunction of the rule's three conditions, and in IDLE the three commands pass the BUSY
check. -/
theorem familyChoice : Obligations.FamilyChoice := by
  refine fun s f => ⟨?_, ?_, fun hidle => ⟨?_, ?_, ?_⟩⟩
  · rw [chooseFamily_eq_v2_iff, useV2_iff]
  · rw [chooseFamily_eq_v1_iff, useV2_iff]
  all_goals exact congrArg Host.Outcome.next (whenIdle_of_idle hidle _)

/-! ## The TX sink's answers -/

/-- Any result but RX_OK_V2 ends an operation with the version flag as it was (R170, R186). -/
theorem finish_eq_of_ne {r : Result} (h : r ≠ .rxOkV2) (s : State) :
    finish r s = { s with result := r, done := true, fsm := .idle, op := .none, txFrame := [] } :=
  congrArg (fun v => { s with v2Supported := v, result := r, done := true, fsm := .idle, op := .none, txFrame := [] })
    (finish_v2Supported_of_ne h s)

theorem enabled_txAccept_iff (s : State) : enabled .txAccept s = true ↔ s.fsm = .sending := decide_eq_true_iff

theorem enabled_txFail_iff (s : State) : enabled .txFail s = true ↔ s.fsm = .sending := decide_eq_true_iff

/-- In SENDING the sink's answer, once scheduled, is performed. -/
theorem step_txAccept {s : State} (hs : s.fsm = .sending) : step (s.facing [.txAccept]) = .next (txAcceptEvent s) :=
  if_pos ((enabled_txAccept_iff s).mpr hs)

theorem step_txFail {s : State} (hs : s.fsm = .sending) : step (s.facing [.txFail]) = .next (txFailEvent s) :=
  if_pos ((enabled_txFail_iff s).mpr hs)

/-- Settles O17: the accepted frame is appended, and then a SEND finishes (`finish_eq_of_ne`) or the receive phase of a
TRANSACT or NEGOTIATE begins. -/
theorem txAcceptDelivers : Obligations.TxAcceptDelivers := by
  refine fun s => ⟨enabled_txAccept_iff s, ?_, fun kind hkind => ?_⟩
  · have hresult : (if s.txV2 then Result.sentV2 else .sentV1) ≠ .rxOkV2 := by split <;> decide
    rw [step_txAccept rfl]
    exact congrArg Host.Outcome.next (finish_eq_of_ne hresult _)
  · rw [step_txAccept rfl]
    rcases hkind with rfl | rfl <;> rfl

/-- Settles O18: TxFail finishes with TRANSPORT_ERROR, which `finish_eq_of_ne` writes out. -/
theorem txFailReports : Obligations.TxFailReports := by
  refine fun s => ⟨enabled_txFail_iff s, ?_⟩
  rw [step_txFail rfl]
  exact congrArg Host.Outcome.next (finish_eq_of_ne (by decide) _)

end Sys2Proof.Machine
end

section
/-! PROOFS. Receiving (42_receive.md): what a consumed byte does in each receive state, how a run of RxSteps consumes a
sequence of bytes, the reception of a whole response frame, and the deadline. -/

namespace Sys2Proof.Machine

/-! ## One RxStep -/

/-- In a receive state the scheduled RxStep takes the oldest byte and applies the state's rule to it (R145). -/
theorem step_rxStep {f : Fsm} (hf : f.isRx = true) (s : State) (b : Byte) (q : List Byte) (es : List Event) :
    step ({ s with fsm := f, rxfifo := b :: q }.facing (.rxStep :: es))
      = rxApply b ({ s with fsm := f, rxfifo := q }.facing es) := by
  have hen : enabled .rxStep ({ s with fsm := f, rxfifo := b :: q }.facing es) = true := by
    simp [enabled, State.facing, hf]
  exact if_pos hen

/-! ## The third byte of a header (R149, R150) -/

theorem decode_m_unknown {b : Byte} (hreq : b ≠ 0x3C#8) (hresp : b ≠ 0x3E#8) (herr : b ≠ 0x21#8) :
    decode .wire [0x24#8, 0x4D#8, b] = .error .unknownHeader := by
  simp [decode, decodeHeader, headerTable, hreq.symm, hresp.symm, herr.symm]

theorem decode_x_unknown {b : Byte} (hreq : b ≠ 0x3C#8) (hresp : b ≠ 0x3E#8) :
    decode .wire [0x24#8, 0x58#8, b] = .error .unknownHeader := by
  simp [decode, decodeHeader, headerTable, hreq.symm, hresp.symm]

theorem rxHeader_of_unknown {b1 b2 : Byte} (h : decode .wire [0x24#8, b1, b2] = .error .unknownHeader) (s : State) :
    rxHeader b1 b2 s = .next { s with fsm := .scan } := by
  simp only [rxHeader, h]

theorem atHeader_of_eq {f : Fsm} {s : State} (h : s.fsm = f) (run : State → State) : atHeader f run s = run s :=
  if_pos h

/-- `$M`: `>` starts the V1 decode, `!` finishes with REJECTED, any other byte, `<` included, resyncs (R149). -/
theorem rxApply_gotM (b : Byte) {s : State} (hs : s.fsm = .gotM) :
    rxApply b s = .next (if b = 0x3E#8 then { s with acc := 0, fsm := .v1Size }
      else if b = 0x21#8 then finish .rejected s else { s with fsm := .scan }) := by
  have hrule : rxApply b s = rxHeader 0x4D#8 b s := by simp only [rxApply, hs, rxGotM]
  rw [hrule]
  split
  · next hresp => subst hresp; exact congrArg _ (atHeader_of_eq hs _)
  · next hresp =>
    split
    · next herr => subst herr; exact congrArg _ (atHeader_of_eq hs _)
    · next herr =>
      by_cases hreq : b = 0x3C#8
      · subst hreq; exact congrArg _ (atHeader_of_eq hs _)
      · exact rxHeader_of_unknown (decode_m_unknown hreq hresp herr) s

/-- `$X`: `>` starts the V2 decode, any other byte, `<` and `!` included, resyncs (R150). -/
theorem rxApply_gotX (b : Byte) {s : State} (hs : s.fsm = .gotX) :
    rxApply b s = .next (if b = 0x3E#8 then { s with acc := 0, fsm := .v2Flag } else { s with fsm := .scan }) := by
  have hrule : rxApply b s = rxHeader 0x58#8 b s := by simp only [rxApply, hs, rxGotX]
  rw [hrule]
  split
  · next hresp => subst hresp; exact congrArg _ (atHeader_of_eq hs _)
  · next hresp =>
    by_cases hreq : b = 0x3C#8
    · subst hreq; exact congrArg _ (atHeader_of_eq hs _)
    · exact rxHeader_of_unknown (decode_x_unknown hreq hresp) s

/-- Settles O24: `rxApply_gotM` and `rxApply_gotX`; `finish_eq_of_ne` writes out the REJECTED finish. -/
theorem headerThirdByteFollowsRules : Obligations.HeaderThirdByteFollowsRules := by
  refine fun s b q => ⟨?_, ?_⟩
  · rw [step_rxStep rfl, rxApply_gotM b rfl, finish_eq_of_ne (by decide)]
    simp only [apply_ite Host.Outcome.next]
    rfl
  · rw [step_rxStep rfl, rxApply_gotX b rfl]
    simp only [apply_ite Host.Outcome.next]
    rfl

/-! ## The other states of the scan and the fields (R146-R148, R151, R152, R155-R159)

Their rules are record updates, which the statements write out. -/

/-- Settles O23: each RxStep is the rule of its state. -/
theorem scanStatesFollowRules : Obligations.ScanStatesFollowRules := fun s b q =>
  ⟨step_rxStep rfl s b q [], step_rxStep rfl s b q [], step_rxStep rfl s b q []⟩

/-- Settles O28: each RxStep is the rule of its state. -/
theorem v1FieldsFollowRules : Obligations.V1FieldsFollowRules := fun s b q =>
  ⟨step_rxStep rfl s b q [], step_rxStep rfl s b q []⟩

/-- Settles O29: each RxStep is the rule of its state, with `lo8`, `hi8` and `word16` written out. -/
theorem v2FieldsFollowRules : Obligations.V2FieldsFollowRules := fun s b q =>
  ⟨step_rxStep rfl s b q [], step_rxStep rfl s b q [], step_rxStep rfl s b q [], step_rxStep rfl s b q [],
    step_rxStep rfl s b q []⟩

/-! ## The payload states (R153, R160) -/

theorem rxApply_v1Payload (b : Byte) {s : State} (hs : s.fsm = .v1Payload) (h : s.rxIdx.toNat < bufLen) :
    rxApply b s = .next { storePayload b s with
      acc := s.acc ^^^ b, fsm := if (s.rxIdx + 1).toNat = s.rxLen.toNat then .v1Check else .v1Payload } := by
  simp only [rxApply, hs]
  exact if_pos h

theorem rxApply_v2Payload (b : Byte) {s : State} (hs : s.fsm = .v2Payload) (h : s.rxIdx.toNat < bufLen) :
    rxApply b s = .next { storePayload b s with
      acc := crc8Step s.acc b, fsm := if (s.rxIdx + 1).toNat = s.rxLen.toNat then .v2Crc else .v2Payload } := by
  simp only [rxApply, hs]
  exact if_pos h

/-- Inside RX_BUF the 17-bit payload counter does not wrap (R164). -/
theorem rxIdx_succ_toNat {s : State} (h : s.rxIdx.toNat < bufLen) : (s.rxIdx + 1).toNat = s.rxIdx.toNat + 1 := by
  unfold bufLen at h
  bv_omega

theorem readByte_writeByte (s : State) (a : Nat) (b : Byte) (a' : Nat) :
    readByte (writeByte s a b) a' = if a' = a then b else readByte s a' := by
  split
  · next h => rw [h, readByte_writeByte_same]
  · next h => exact readByte_writeByte_other s b h

/-- Settles O30: the memory is the old one with the byte written at `RX_BUF[rx_idx]`. -/
theorem payloadBytesAreStored : Obligations.PayloadBytesAreStored := by
  intro s b q hidx
  refine ⟨s.mem.put (rxBase + s.rxIdx.toNat) b, readByte_writeByte s _ b, ?_, ?_⟩
  · rw [step_rxStep rfl, ← rxIdx_succ_toNat hidx]
    exact rxApply_v1Payload b rfl hidx
  · rw [step_rxStep rfl, ← rxIdx_succ_toNat hidx]
    exact rxApply_v2Payload b rfl hidx

/-! ## The integrity byte (R154, R161) -/

theorem rxV1Check_of_eq {b : Byte} {s : State} (h : b = s.acc) :
    rxV1Check b s = { s with
      rxCode := s.rxCodeSh, rxSize := s.rxLen, rxFlag := 0, rxIsV2 := false, rxValid := true, result := .rxOkV1,
      done := true, fsm := .idle, op := .none, txFrame := [] } :=
  (if_pos h).trans (finish_eq_of_ne (by decide) _)

theorem rxV1Check_of_ne {b : Byte} {s : State} (h : b ≠ s.acc) :
    rxV1Check b s = { s with
      result := .checksumMismatch, done := true, fsm := .idle, op := .none, txFrame := [] } :=
  (if_neg h).trans (finish_eq_of_ne (by decide) _)

/-- Only here can an operation's end set the version flag (R186). -/
theorem rxV2Crc_of_eq {b : Byte} {s : State} (h : b = s.acc) :
    rxV2Crc b s = { s with
      rxCode := s.rxCodeSh, rxSize := s.rxLen, rxFlag := s.rxFlagSh, rxIsV2 := true, rxValid := true,
      v2Supported := s.v2Supported || decide (s.op = .negotiate), result := .rxOkV2, done := true, fsm := .idle,
      op := .none, txFrame := [] } := by
  have hflag : (s.v2Supported || (decide (s.op = .negotiate) && decide (Result.rxOkV2 = .rxOkV2)))
      = (s.v2Supported || decide (s.op = .negotiate)) := by simp
  rw [← hflag]
  exact if_pos h

theorem rxV2Crc_of_ne {b : Byte} {s : State} (h : b ≠ s.acc) :
    rxV2Crc b s = { s with result := .crcMismatch, done := true, fsm := .idle, op := .none, txFrame := [] } :=
  (if_neg h).trans (finish_eq_of_ne (by decide) _)

theorem accTracks_v1Check {s : State} (h : s.AccTracks) (hs : s.fsm = .v1Check) :
    s.acc = v1Sum s.rxLen s.rxCodeSh (rxPayload s s.rxLen.toNat) := by
  simpa only [State.AccTracks, hs] using h

theorem accTracks_v2Crc {s : State} (h : s.AccTracks) (hs : s.fsm = .v2Crc) :
    s.acc = v2Sum s.rxFlagSh s.rxCodeSh s.rxLen (rxPayload s s.rxLen.toNat) := by
  simpa only [State.AccTracks, hs] using h

/-- Settles O32: the two outcomes of V1_CHECK and of V2_CRC, and what `AccTracks` says there. -/
theorem integrityByteDecides : Obligations.IntegrityByteDecides := by
  refine fun s b q => ⟨?_, ?_, fun h => ⟨accTracks_v1Check h, accTracks_v2Crc h⟩⟩
  · rw [step_rxStep rfl]
    split
    · next hmatch => exact congrArg Host.Outcome.next (rxV1Check_of_eq hmatch)
    · next hdiffers => exact congrArg Host.Outcome.next (rxV1Check_of_ne hdiffers)
  · rw [step_rxStep rfl]
    split
    · next hmatch => exact congrArg Host.Outcome.next (rxV2Crc_of_eq hmatch)
    · next hdiffers => exact congrArg Host.Outcome.next (rxV2Crc_of_ne hdiffers)

/-! ## Consuming a sequence of bytes -/

/-- `s` with these bytes in the RX FIFO and these events scheduled before its own. -/
def State.withInput (s : State) (q : List Byte) (es : List Event) : State :=
  { s with rxfifo := q, sched := es ++ s.sched }

@[simp] theorem withInput_fsm (s : State) (q : List Byte) (es : List Event) : (s.withInput q es).fsm = s.fsm := rfl

theorem step_withInput {s : State} (hrx : s.fsm.isRx = true) (b : Byte) (q : List Byte) (es : List Event) :
    step (s.withInput (b :: q) (.rxStep :: es)) = rxApply b (s.withInput q es) := step_rxStep hrx s b q es

/-- A rule neither reads nor moves the RX FIFO and the schedule: it does the same in front of any of them. -/
theorem rxApply_withInput {b : Byte} {s t : State} (h : rxApply b s = .next t) (q : List Byte) (es : List Event) :
    rxApply b (s.withInput q es) = .next (t.withInput q es) := by
  cases hf : s.fsm
  case gotM =>
    cases (rxApply_gotM b hf).symm.trans h
    rw [rxApply_gotM b (s := s.withInput q es) hf]
    simp only [apply_ite (State.withInput · q es)]
    rfl
  case gotX =>
    cases (rxApply_gotX b hf).symm.trans h
    rw [rxApply_gotX b (s := s.withInput q es) hf]
    simp only [apply_ite (State.withInput · q es)]
    rfl
  case v1Check =>
    simp only [rxApply, hf, withInput_fsm] at h ⊢
    cases h
    simp only [rxV1Check, apply_ite (State.withInput · q es)]
    rfl
  case v2Crc =>
    simp only [rxApply, hf, withInput_fsm] at h ⊢
    cases h
    simp only [rxV2Crc, apply_ite (State.withInput · q es)]
    rfl
  case v1Payload =>
    simp only [rxApply, hf, withInput_fsm, rxV1Payload] at h ⊢
    split at h
    · next hidx => cases h; exact if_pos hidx
    · cases h
  case v2Payload =>
    simp only [rxApply, hf, withInput_fsm, rxV2Payload] at h ⊢
    split at h
    · next hidx => cases h; exact if_pos hidx
    · cases h
  all_goals
    simp only [rxApply, hf, withInput_fsm] at h ⊢
    cases h; rfl

/-- The bytes, consumed one after the other in receive states, lead from one state to the other. The RX FIFO and the
schedule are left out of it: `run_receives` adds them. -/
inductive Receives : List Byte → State → State → Prop
  | nil (s : State) : Receives [] s s
  | cons {b : Byte} {bs : List Byte} {s u t : State} (hrx : s.fsm.isRx = true) (hb : rxApply b s = .next u)
      (hbs : Receives bs u t) : Receives (b :: bs) s t

theorem Receives.append {bs cs : List Byte} {s u t : State} (hbs : Receives bs s u) (hcs : Receives cs u t) :
    Receives (bs ++ cs) s t := by
  induction hbs with
  | nil => exact hcs
  | cons hrx hb _ ih => exact .cons hrx hb (ih hcs)

theorem Receives.single {b : Byte} {s t : State} (hrx : s.fsm.isRx = true) (hb : rxApply b s = .next t) :
    Receives [b] s t := .cons hrx hb (.nil t)

/-- As many RxSteps as there are bytes consume them from the head of the RX FIFO and leave those behind them there. -/
theorem run_receives {bs : List Byte} {s t : State} (h : Receives bs s t) (q : List Byte) :
    Host.Core.run core bs.length (s.withInput (bs ++ q) (List.replicate bs.length .rxStep))
      = .next { t with rxfifo := q } := by
  induction h with
  | nil => rfl
  | @cons b bs s u t hrx hb _ ih =>
    have hstep : step (s.withInput (b :: (bs ++ q)) (.rxStep :: List.replicate bs.length .rxStep))
        = .next (u.withInput (bs ++ q) (List.replicate bs.length .rxStep)) :=
      (step_withInput hrx b (bs ++ q) _).trans (rxApply_withInput hb _ _)
    exact (run_succ _ hstep).trans ih

/-! ## Headers as the scan sees them (R163) -/

theorem receives_dollar (s : State) : Receives [0x24#8] { s with fsm := .scan } { s with fsm := .gotDollar } :=
  .single rfl rfl

theorem receives_dollar_m (s : State) : Receives [0x24#8, 0x4D#8] { s with fsm := .scan } { s with fsm := .gotM } :=
  (receives_dollar s).append (.single rfl rfl)

theorem receives_dollar_x (s : State) : Receives [0x24#8, 0x58#8] { s with fsm := .scan } { s with fsm := .gotX } :=
  (receives_dollar s).append (.single rfl rfl)

/-- Behind `$` any byte but `M` and `X` leaves one more byte to skip, `$` included (R147, R148). -/
theorem receives_dollar_other {c : Byte} (hm : c ≠ 0x4D#8) (hx : c ≠ 0x58#8) (d : Byte) (s : State) :
    Receives [0x24#8, c, d] { s with fsm := .scan } { s with fsm := .scan } := by
  have hskip : rxApply c { s with fsm := .gotDollar } = .next { s with fsm := .hdrSkip } := by
    simp only [rxApply, rxGotDollar, if_neg hm, if_neg hx]
  exact (receives_dollar s).append (.cons rfl hskip (.single rfl rfl))

/-- Settles O27: the byte behind `$` leads to GOT_M, GOT_X or HDR_SKIP, and the third byte is that state's
(`rxApply_gotM`, `rxApply_gotX`). -/
theorem headerRecognitionFromScan : Obligations.HeaderRecognitionFromScan := by
  refine fun s c d q => ⟨?_, ?_⟩
  · by_cases hm : c = 0x4D#8
    · subst hm
      have hrun := run_receives ((receives_dollar_m s).append (.single rfl (rxApply_gotM d rfl))) q
      rw [finish_eq_of_ne (by decide)] at hrun
      refine hrun.trans ?_
      by_cases hresp : d = 0x3E#8
      · simp [hresp]
      · by_cases herr : d = 0x21#8 <;> simp [hresp, herr]
    · by_cases hx : c = 0x58#8
      · subst hx
        refine (run_receives ((receives_dollar_x s).append (.single rfl (rxApply_gotX d rfl))) q).trans ?_
        by_cases hresp : d = 0x3E#8 <;> simp [hresp]
      · refine (run_receives (receives_dollar_other hm hx d s) q).trans ?_
        simp only [hm, hx, false_and, if_false]
  · exact run_receives ((receives_dollar_other (by decide) (by decide) 0x4D#8 s).append (.single rfl rfl)) q

/-! ## The payload of a frame (R153, R160) -/

/-- The bytes stored one after the other from an offset. -/
def Memory.putBytes (m : Memory) (a : Nat) (p : List Byte) : Memory :=
  match p with
  | [] => m
  | b :: p => Memory.putBytes (m.put a b) (a + 1) p

theorem Memory.get?_putBytes_below (m : Memory) {a a' : Nat} (p : List Byte) (h : a' < a) :
    (m.putBytes a p).get? a' = m.get? a' := by
  induction p generalizing m a with
  | nil => rfl
  | cons b p ih => rw [putBytes, ih _ (by omega), get?_put_other _ _ (by omega)]

theorem Memory.get?_putBytes (m : Memory) (a : Nat) {p : List Byte} {i : Nat} (h : i < p.length) :
    (m.putBytes a p).get? (a + i) = some p[i] := by
  induction p generalizing m a i with
  | nil => cases h
  | cons b p ih =>
    cases i with
    | zero => exact (get?_putBytes_below _ p (by omega)).trans (get?_put_same m a b)
    | succ i =>
      rw [putBytes, show a + (i + 1) = a + 1 + i by omega, List.getElem_cons_succ]
      exact ih _ _ (Nat.lt_of_succ_lt_succ h)

/-- Stored bytes are read back as the sequence they are. -/
theorem bufBytes_putBytes {s : State} {m : Memory} {a : Nat} {p : List Byte} (h : s.mem = m.putBytes a p) :
    bufBytes s a p.length = p := by
  refine List.ext_getElem (bufBytes_length s a _) fun i _ hi => ?_
  simp [bufBytes, readByte, h, Memory.get?_putBytes m a hi]

/-- What V1_PAYLOAD and V2_PAYLOAD have in common: the byte is stored and folded into `acc`, and the last one moves on
(R153, R160). -/
def StoresPayload (here done : Fsm) (fold : Byte → Byte → Byte) : Prop :=
  here.isRx = true ∧ ∀ (b : Byte) (s : State), s.fsm = here → s.rxIdx.toNat < bufLen →
    rxApply b s = .next { storePayload b s with
      acc := fold s.acc b, fsm := if (s.rxIdx + 1).toNat = s.rxLen.toNat then done else here }

theorem storesPayload_v1 : StoresPayload .v1Payload .v1Check (fun x b => x ^^^ b) :=
  ⟨rfl, fun b _ => rxApply_v1Payload b⟩

theorem storesPayload_v2 : StoresPayload .v2Payload .v2Crc crc8Step :=
  ⟨rfl, fun b _ => rxApply_v2Payload b⟩

/-- As many bytes as the frame still announces are stored in RX_BUF from `rx_idx` on and folded into `acc`, and the
integrity byte is next; with none to come it is next already. -/
theorem receives_payload {here done : Fsm} {fold : Byte → Byte → Byte} (hp : StoresPayload here done fold)
    {p : List Byte} {s : State} (hlen : s.rxIdx.toNat + p.length = s.rxLen.toNat)
    (hs : s.fsm = if s.rxIdx.toNat = s.rxLen.toNat then done else here) :
    Receives p s { s with
      mem := s.mem.putBytes (rxBase + s.rxIdx.toNat) p, rxIdx := s.rxIdx + BitVec.ofNat 17 p.length,
      acc := p.foldl fold s.acc, fsm := done } := by
  obtain ⟨hrx, hrule⟩ := hp
  induction p generalizing s with
  | nil =>
    have hdone : s.fsm = done := hs.trans (if_pos hlen)
    subst hdone
    simpa [Memory.putBytes] using Receives.nil s
  | cons b p ih =>
    rw [List.length_cons] at hlen
    have hhere : s.fsm = here := hs.trans (if_neg (by omega))
    have hidx : s.rxIdx.toNat < bufLen := by have := s.rxLen.isLt; unfold bufLen; omega
    have hsucc := rxIdx_succ_toNat hidx
    have hrest := ih (s := { storePayload b s with
      acc := fold s.acc b, fsm := if (s.rxIdx + 1).toNat = s.rxLen.toNat then done else here })
      (by simp only [storePayload_rxIdx, storePayload_rxLen, hsucc]; omega) rfl
    have hcount : s.rxIdx + 1 + BitVec.ofNat 17 p.length = s.rxIdx + BitVec.ofNat 17 (p.length + 1) := by
      rw [BitVec.add_assoc, BitVec.add_comm 1, BitVec.ofNat_add]; rfl
    have hoff : rxBase + (s.rxIdx + 1).toNat = rxBase + s.rxIdx.toNat + 1 := by rw [hsucc]; rfl
    simp only [storePayload_rxIdx, storePayload_mem, hcount, hoff] at hrest
    exact .cons (hhere ▸ hrx) (hrule b s hhere hidx) hrest

/-! ## A whole response frame (R173) -/

theorem rxLen_eq_zero_iff (len : BitVec 16) : len = 0 ↔ (0#17).toNat = len.toNat := by
  rw [BitVec.toNat_eq, eq_comm]; rfl

@[simp] theorem lo8_word16 (lo hi : Byte) : lo8 (word16 lo hi) = lo := by
  simp [lo8, word16, BitVec.extractLsb'_append_eq_of_add_le, -Nat.reduceAdd]

@[simp] theorem word16_lo8_hi8 (v : BitVec 16) : word16 (lo8 v) (hi8 v) = v :=
  (BitVec.extractLsb'_append_extractLsb'_eq_extractLsb' (x := v) rfl).trans BitVec.extractLsb'_eq_self

/-- `$M>`, the size and the code of a V1 response. -/
theorem receives_v1Fields (n k : Byte) (s : State) :
    Receives [0x24#8, 0x4D#8, 0x3E#8, n, k] { s with fsm := .scan } { s with
      rxLen := n.zeroExtend 16, rxCodeSh := k.zeroExtend 16, acc := [n, k].foldl (fun x b => x ^^^ b) 0, rxIdx := 0,
      fsm := if n.zeroExtend 16 = (0 : BitVec 16) then .v1Check else .v1Payload } :=
  (receives_dollar_m s).append (.cons rfl (rxApply_gotM 0x3E#8 rfl) (.cons rfl rfl (.single rfl rfl)))

/-- `$X>`, the flag, the code and the size of a V2 response. -/
theorem receives_v2Fields (flag : Byte) (k n : BitVec 16) (s : State) :
    Receives [0x24#8, 0x58#8, 0x3E#8, flag, lo8 k, hi8 k, lo8 n, hi8 n] { s with fsm := .scan } { s with
      rxFlagSh := flag, rxCodeSh := k, rxLen := n, acc := crc8 [flag, lo8 k, hi8 k, lo8 n, hi8 n], rxIdx := 0,
      fsm := if n = 0 then .v2Crc else .v2Payload } := by
  have hfields := (receives_dollar_x s).append (.cons rfl (rxApply_gotX 0x3E#8 rfl) (.cons (b := flag) rfl rfl
    (.cons (b := lo8 k) rfl rfl (.cons (b := hi8 k) rfl rfl (.cons (b := lo8 n) rfl rfl
      (.single (b := hi8 n) rfl rfl))))))
  simpa [rxV2Flag, rxV2CodeLo, rxV2CodeHi, rxV2SizeLo, rxV2SizeHi, crc8] using hfields

/-- The checksum of a V1 frame folds the payload onto its size and code (R87). -/
theorem v1_checksum_eq (n k : Byte) (p : List Byte) :
    n ^^^ k ^^^ foldXor p = p.foldl (fun x b => x ^^^ b) ([n, k].foldl (fun x b => x ^^^ b) 0) :=
  foldXor_size_code_payload n k p

/-- The CRC of a V2 frame folds the payload onto its flag, code and size (R88). -/
theorem v2_crc_eq (fields p : List Byte) : crc8 (fields ++ p) = p.foldl crc8Step (crc8 fields) := List.foldl_append

theorem asResponse_length (f : List Byte) : (asResponse f).length = f.length := List.length_set

/-- The receive phase has ended with this result and published this code, `RX_INFO` and payload (R171, R173). -/
def State.Received (t : State) (r : Result) (code : BitVec 16) (info : Word) (p : List Byte) : Prop :=
  t.fsm = .idle ∧ t.result = r ∧ t.done = true ∧ t.rxValid = true ∧ t.rxCode = code ∧ t.rxSize.toNat = p.length ∧
    rxInfoWord t = info ∧ rxPayload t p.length = p

theorem rxInfoWord_of_v1 {s : State} (hv2 : s.rxIsV2 = false) (hflag : s.rxFlag = 0) : rxInfoWord s = 0#32 := by
  rw [rxInfoWord, hv2, hflag]; rfl

theorem rxInfoWord_of_v2 {s : State} (hv2 : s.rxIsV2 = true) (hflag : s.rxFlag = 0) : rxInfoWord s = 0x100#32 := by
  rw [rxInfoWord, hv2, hflag]; rfl

theorem receives_v1Response (s : State) (k : Byte) {p : List Byte} (hp : p.length ≤ 255) :
    ∃ t, Receives (asResponse (encV1 k p)) { s with fsm := .scan } t ∧
      t.Received .rxOkV1 (k.zeroExtend 16) 0#32 p := by
  have hlen : ((BitVec.ofNat 8 p.length).zeroExtend 16).toNat = p.length := by simp; omega
  have hfields := receives_v1Fields (BitVec.ofNat 8 p.length) k s
  simp only [rxLen_eq_zero_iff] at hfields
  have hpayload := hfields.append (receives_payload storesPayload_v1 (p := p) (by simp [hlen]) rfl)
  have hframe := hpayload.append (.single rfl (congrArg _ (rxV1Check_of_eq (v1_checksum_eq _ k p))))
  exact ⟨_, hframe, rfl, rfl, rfl, rfl, rfl, hlen, rxInfoWord_of_v1 rfl rfl, bufBytes_putBytes rfl⟩

theorem receives_v2Response (s : State) (k : BitVec 16) {p : List Byte} (hp : p.length ≤ 65535) :
    ∃ t, Receives (asResponse (encV2 k p)) { s with fsm := .scan } t ∧ t.Received .rxOkV2 k 0x100#32 p := by
  have hlen : (BitVec.ofNat 16 p.length).toNat = p.length := Nat.mod_eq_of_lt (by omega)
  have hfields := receives_v2Fields 0x00#8 k (BitVec.ofNat 16 p.length) s
  simp only [rxLen_eq_zero_iff] at hfields
  have hpayload := hfields.append (receives_payload storesPayload_v2 (p := p) (by simp [hlen]) rfl)
  have hframe := hpayload.append (.single rfl (congrArg _ (rxV2Crc_of_eq (v2_crc_eq _ p))))
  exact ⟨_, hframe, rfl, rfl, rfl, rfl, rfl, hlen, rxInfoWord_of_v2 rfl rfl, bufBytes_putBytes rfl⟩

/-- Settles O34: a frame is its header and fields, its payload, by `receives_payload`, and its integrity byte, which is
what `acc` has folded. -/
theorem receiveInvertsEncode : Obligations.ReceiveInvertsEncode := by
  refine ⟨fun s k p q hp => ?_, fun s k p q hp => ?_⟩
  · obtain ⟨t, ht, hfsm, hresult, hdone, hvalid, hcode, hsize, hinfo, hpayload⟩ := receives_v1Response s k hp
    have hrun := run_receives ht q
    rw [asResponse_length, encV1_length] at hrun
    exact ⟨_, hrun, hfsm, hresult, hdone, hvalid, hcode, hsize, hinfo, hpayload, rfl⟩
  · obtain ⟨t, ht, hfsm, hresult, hdone, hvalid, hcode, hsize, hinfo, hpayload⟩ := receives_v2Response s k hp
    have hrun := run_receives ht q
    rw [asResponse_length, encV2_length] at hrun
    exact ⟨_, hrun, hfsm, hresult, hdone, hvalid, hcode, hsize, hinfo, hpayload, rfl⟩

/-! ## The deadline (R166-R168) -/

theorem step_tick (s : State) (es : List Event) : step (s.facing (.tick :: es)) = .next (tickEvent (s.facing es)) := rfl

theorem tickEvent_of_expired {s : State} (hrx : s.fsm.isRx = true) (ht : s.timer.toNat ≤ 1) :
    tickEvent s = { s with timer := 0, result := .timeout, done := true, fsm := .idle, op := .none, txFrame := [] } := by
  rw [tickEvent, if_pos hrx, if_pos ht, finish_eq_of_ne (by decide)]

theorem tickEvent_of_running {s : State} (hrx : s.fsm.isRx = true) (ht : 1 < s.timer.toNat) :
    tickEvent s = { s with timer := s.timer - 1 } := by
  rw [tickEvent, if_pos hrx, if_neg (Nat.not_le.mpr ht)]

theorem tickEvent_of_not_rx {s : State} (h : s.fsm = .idle ∨ s.fsm = .sending) : tickEvent s = s := by
  have hrx : ¬s.fsm.isRx = true := by rcases h with h | h <;> rw [h] <;> decide
  exact if_neg hrx

/-- Settles O35: the three cases of `tickEvent`. -/
theorem tickCountsTheDeadline : Obligations.TickCountsTheDeadline := fun _ =>
  ⟨fun hrx ht => congrArg Host.Outcome.next (tickEvent_of_expired hrx ht),
    fun hrx ht => congrArg Host.Outcome.next (tickEvent_of_running hrx ht),
    fun h => congrArg Host.Outcome.next (tickEvent_of_not_rx h)⟩

/-- Ticks before the one that ends the phase, the k-th of k and with 0 loaded the first, only count down. -/
theorem run_ticks {s : State} (hrx : s.fsm.isRx = true) {j : Nat} (hj : j < max s.timer.toNat 1) (n : Nat)
    (es : List Event) :
    Host.Core.run core (j + n) (s.facing (List.replicate j .tick ++ es))
      = Host.Core.run core n ({ s with timer := s.timer - BitVec.ofNat 32 j }.facing es) := by
  induction j generalizing s with
  | zero => simp
  | succ j ih =>
    have hrunning : 1 < s.timer.toNat := by omega
    have hstep : step (s.facing (List.replicate (j + 1) .tick ++ es))
        = .next ({ s with timer := s.timer - 1 }.facing (List.replicate j Event.tick ++ es)) :=
      congrArg Host.Outcome.next (tickEvent_of_running (s := s.facing (List.replicate j Event.tick ++ es)) hrx hrunning)
    have hrest : j < max (s.timer - 1).toNat 1 := by bv_omega
    have hcount : s.timer - 1 - BitVec.ofNat 32 j = s.timer - BitVec.ofNat 32 (j + 1) := by bv_omega
    rw [Nat.succ_add, run_succ _ hstep, ih (s := { s with timer := s.timer - 1 }) hrx hrest, hcount]

/-- The last Tick finds at most one left (R167). -/
theorem run_ticks_to_expiry {s : State} (hrx : s.fsm.isRx = true) :
    Host.Core.run core (max s.timer.toNat 1) (s.facing (List.replicate (max s.timer.toNat 1) .tick))
      = .next { s with timer := 0, result := .timeout, done := true, fsm := .idle, op := .none, txFrame := [] } := by
  have hk : max s.timer.toNat 1 = s.timer.toNat - 1 + 1 := by omega
  have hlast : (s.timer - BitVec.ofNat 32 (s.timer.toNat - 1)).toNat ≤ 1 := by bv_omega
  rw [hk, List.replicate_succ', run_ticks hrx (by omega), run_one, step_tick, facing_nil]
  exact congrArg Host.Outcome.next
    (tickEvent_of_expired (s := { s with timer := s.timer - BitVec.ofNat 32 (s.timer.toNat - 1) }) hrx hlast)

/-- No received byte reloads the deadline. -/
theorem rxApply_timer {b : Byte} {s t : State} (h : rxApply b s = .next t) : t.timer = s.timer := by
  cases hf : s.fsm
  case gotM =>
    cases (rxApply_gotM b hf).symm.trans h
    split
    · rfl
    · split <;> rfl
  case gotX =>
    cases (rxApply_gotX b hf).symm.trans h
    split <;> rfl
  all_goals simp only [rxApply, hf] at h
  case v1Payload => unfold rxV1Payload at h; split at h <;> cases h; rfl
  case v2Payload => unfold rxV2Payload at h; split at h <;> cases h; rfl
  case v1Check => cases h; unfold rxV1Check; split <;> rfl
  case v2Crc => cases h; unfold rxV2Crc; split <;> rfl
  all_goals cases h; rfl

theorem rxByteEvent_timer (b : Byte) (s : State) : (rxByteEvent b s).timer = s.timer := by
  unfold rxByteEvent; split <;> rfl

/-- An RxStep keeps the deadline, whether it is enabled or not. -/
theorem step_rxStep_timer {s t : State} (h : step (s.facing [.rxStep]) = .next t) : t.timer = s.timer := by
  rw [step_facing, facing_nil, runEvent] at h
  split at h
  · cases hq : s.rxfifo with
    | nil => simp only [perform, rxStepEvent, hq] at h; cases h; rfl
    | cons b q =>
      simp only [perform, rxStepEvent, hq] at h
      exact rxApply_timer (s := { s with rxfifo := q }) h
  · cases h; rfl

/-- Settles O36: `run_ticks_to_expiry`, `run_ticks` alone for fewer Ticks, and the bytes' events keep the deadline. -/
theorem deadlineIsOverall : Obligations.DeadlineIsOverall := by
  refine ⟨fun s hrx => run_ticks_to_expiry hrx, fun s j hrx hj => ?_, fun s t b h => ?_, fun s => ⟨rfl, rfl, rfl⟩⟩
  · have hrun := run_ticks hrx (j := j) (by omega) 0 []
    rwa [List.append_nil] at hrun
  · rcases h with h | h
    · exact step_rxStep_timer h
    · cases (step_rxByte s b).symm.trans h
      exact rxByteEvent_timer b s

end Sys2Proof.Machine
end

section
/-! PROOFS. Exceptions (60_exceptions.md): the interrupt level (R214), the refusals of a command word and their priority
(R201, R202), and the priority of the bus errors (R207). -/

namespace Sys2Proof.Machine

/-! ## The interrupt level -/

/-- The enables are the only bits of `IRQ_EN` that can be set (R33). -/
theorem irqEnWord_getLsbD_iff (s : State) (i : Nat) :
    (irqEnWord s).getLsbD i = true ↔
      (i = 16 ∧ s.doneIe = true) ∨ (i = 17 ∧ s.cmdErrIe = true) ∨ (i = 18 ∧ s.ovrIe = true) := by
  simp only [irqEnWord, bit, BitVec.getLsbD_append, BitVec.getLsbD_ofBool, BitVec.getLsbD_zero]
  grind

/-- `STATUS` and `IRQ_EN` share at most the three sticky bits, each set when its source is set and enabled (R33, R214). -/
theorem sharedBit_iff (s : State) (i : Nat) :
    (statusWord s &&& irqEnWord s).getLsbD i = true ↔
      (i = 16 ∧ s.done = true ∧ s.doneIe = true) ∨ (i = 17 ∧ s.cmdErr = true ∧ s.cmdErrIe = true) ∨
        (i = 18 ∧ s.rxOverrun = true ∧ s.ovrIe = true) := by
  obtain ⟨-, -, -, -, hdone, herr, hovr⟩ := statusWord_flags s
  rw [BitVec.getLsbD_and, Bool.and_eq_true, irqEnWord_getLsbD_iff]
  constructor
  · rintro ⟨hs, ⟨rfl, he⟩ | ⟨rfl, he⟩ | ⟨rfl, he⟩⟩
    · exact .inl ⟨rfl, hdone ▸ hs, he⟩
    · exact .inr (.inl ⟨rfl, herr ▸ hs, he⟩)
    · exact .inr (.inr ⟨rfl, hovr ▸ hs, he⟩)
  · rintro (⟨rfl, hs, he⟩ | ⟨rfl, hs, he⟩ | ⟨rfl, hs, he⟩)
    · exact ⟨hdone.trans hs, .inl ⟨rfl, he⟩⟩
    · exact ⟨herr.trans hs, .inr (.inl ⟨rfl, he⟩)⟩
    · exact ⟨hovr.trans hs, .inr (.inr ⟨rfl, he⟩)⟩

theorem irq_iff (s : State) :
    irq s = true ↔ (s.done = true ∧ s.doneIe = true) ∨ (s.cmdErr = true ∧ s.cmdErrIe = true) ∨
      (s.rxOverrun = true ∧ s.ovrIe = true) := by
  simp [irq, or_assoc]

theorem irq_iff_sharedBit (s : State) : irq s = true ↔ statusWord s &&& irqEnWord s ≠ 0#32 := by
  rw [ne_eq, BitVec.zero_iff_eq_false, not_forall]
  simp only [Bool.not_eq_false, sharedBit_iff, exists_or, exists_eq_left, irq_iff]

/-- Settles O51: `irq` is R214's formula by definition, and each of its terms is one bit that `STATUS` and `IRQ_EN` share
(`sharedBit_iff`). -/
theorem irqIsEnabledStatus : Obligations.IrqIsEnabledStatus := fun s => ⟨rfl, irq_iff_sharedBit s, rfl⟩

/-! ## What the decoder refuses -/

/-- The table has a row for exactly the opcodes of the opcode map (R82, R83). -/
theorem cmdTable_any_eq_opKnown (c : Cmd32) : (cmdTable.any fun r => cmdOp r.pattern == c.op) = c.opKnown := by
  unfold Cmd32.opKnown
  generalize c.op = op
  revert op
  decide

/-- An unknown opcode selects no row (R84). -/
theorem decodeCmd_of_unknown {w : Word} (h : (cmdFields w).opKnown = false) : decodeCmd w = .error .illegalOp := by
  have hnone : cmdTable.find? (fun r => cmdOp r.pattern == cmdOp w) = none := by
    rw [← cmdTable_any_eq_opKnown, List.any_eq_false] at h
    exact List.find?_eq_none.mpr h
  simp only [decodeCmd, hnone]

/-- A word under a mask has each of its fields under the mask's field (R81, R83). -/
theorem cmdFields_masked {w mask pattern : Word} (h : w &&& mask = pattern) :
    (cmdFields w).data8 &&& (cmdFields mask).data8 = (cmdFields pattern).data8 ∧
      ((cmdFields w).forceV1 && (cmdFields mask).forceV1) = (cmdFields pattern).forceV1 ∧
      (cmdFields w).reserved &&& (cmdFields mask).reserved = (cmdFields pattern).reserved := by
  subst h
  exact ⟨BitVec.extractLsb'_and.symm, BitVec.getLsbD_and.symm, BitVec.extractLsb'_and.symm⟩

/-- The mask of a row covers the fields its opcode leaves unused, and its pattern has 0 there (R81, R83). -/
theorem cmdTable_covers_unused : ∀ r ∈ cmdTable,
    ((cmdOp r.pattern = 0x02#8 ∨ cmdOp r.pattern = 0x04#8) ∨
      (cmdFields r.mask).data8 = BitVec.allOnes 8 ∧ (cmdFields r.pattern).data8 = 0#8) ∧
    ((cmdOp r.pattern = 0x10#8 ∨ cmdOp r.pattern = 0x12#8) ∨
      (cmdFields r.mask).forceV1 = true ∧ (cmdFields r.pattern).forceV1 = false) ∧
    (cmdFields r.mask).reserved = BitVec.allOnes 15 ∧ (cmdFields r.pattern).reserved = 0#15 := by decide

/-- A word that passes the mask of its opcode's row has zero unused fields (R83). -/
theorem wellFormed_of_row {w : Word} {r : CmdRow} (hr : r ∈ cmdTable) (hop : cmdOp r.pattern = cmdOp w)
    (hknown : (cmdFields w).opKnown = true) (h : w &&& r.mask = r.pattern) : (cmdFields w).wellFormed = true := by
  obtain ⟨hdata, hforce, hres⟩ := cmdFields_masked h
  obtain ⟨cdata, cforce, cmask, cpat⟩ := cmdTable_covers_unused r hr
  rw [hop] at cdata cforce
  have hdataOk : (cmdFields w).data8Ok = true := by
    rcases cdata with hused | ⟨hm, hp⟩
    · simpa [Cmd32.data8Ok] using .inl hused
    · rw [hm, hp, BitVec.and_allOnes] at hdata
      simp [Cmd32.data8Ok, hdata]
  have hforceOk : (cmdFields w).forceV1Ok = true := by
    rcases cforce with hused | ⟨hm, hp⟩
    · simpa [Cmd32.forceV1Ok] using .inl hused
    · rw [hm, hp, Bool.and_true] at hforce
      simp [Cmd32.forceV1Ok, hforce]
  have hresOk : (cmdFields w).reservedOk = true := by
    rw [cmask, cpat, BitVec.and_allOnes] at hres
    simp [Cmd32.reservedOk, hres]
  simp [Cmd32.wellFormed, hknown, hdataOk, hforceOk, hresOk]

/-- A known opcode with a nonzero unused field fails its row's mask (R84). -/
theorem decodeCmd_of_reserved {w : Word} (hknown : (cmdFields w).opKnown = true)
    (hwf : (cmdFields w).wellFormed = false) : decodeCmd w = .error .reservedField := by
  cases hrow : cmdTable.find? (fun r => cmdOp r.pattern == cmdOp w) with
  | none =>
    have hany := cmdTable_any_eq_opKnown (cmdFields w) ▸ hknown
    rw [List.find?_eq_none, ← List.any_eq_false] at hrow
    cases hrow.symm.trans hany
  | some r =>
    have hop : cmdOp r.pattern = cmdOp w :=
      eq_of_beq (List.find?_some (p := fun r : CmdRow => cmdOp r.pattern == cmdOp w) hrow)
    have hmask : w &&& r.mask ≠ r.pattern := fun h => by
      cases hwf.symm.trans (wellFormed_of_row (List.mem_of_find?_eq_some hrow) hop hknown h)
    simp only [decodeCmd, hrow, hmask, if_false]

/-! ## Refused commands -/

/-- A `CMD` word the decoder refuses is answered OKAY and recorded with its cause (R80, R201). -/
theorem hostWrite_cmd_error {w : Word} {e : DecodeError} (h : decodeCmd w = .error e) (s : State) :
    hostWrite cmdOffset .word w s = .next (cmdError (refusalCause e) { s with bus := some .writeOkay }) := by
  have hcheck : checkWrite s cmdOffset.toNat AccessSize.word.bytes = .ok (.reg .cmd) := rfl
  rw [hostWrite_of_ok hcheck, writeTarget_cmd]
  simp only [issueCommand, h]

theorem whenIdle_of_not_idle {s : State} (h : s.fsm ≠ .idle) (run : State → State) :
    whenIdle run s = cmdError .busy s := if_neg h

/-- A command that needs IDLE is refused with BUSY elsewhere (R203). -/
theorem exec_of_busy {i : Instr} {s : State} (hi : needsIdle i = true) (hs : s.fsm ≠ .idle) :
    exec i s = .next (cmdError .busy s) := by
  cases i
  case send | receive | transact | negotiate | flushRx =>
    exact congrArg Host.Outcome.next (whenIdle_of_not_idle hs _)
  all_goals cases hi

/-- ABORT is refused with BUSY in SENDING (R188). -/
theorem exec_abort_of_sending {s : State} (hs : s.fsm = .sending) : exec .abort s = .next (cmdError .busy s) := by
  simp [exec, execAbort, hs, Fsm.isRx]

/-- Settles O8: the decoder refuses the first two kinds (`decodeCmd_of_unknown`, `decodeCmd_of_reserved`), the command's
own meaning the last two (`exec_of_busy`, `exec_abort_of_sending`). -/
theorem refusedCommandSetsTwoFields : Obligations.RefusedCommandSetsTwoFields := by
  refine fun s w => ⟨fun hop => ?_, fun hop hwf => ?_, fun i hi hneeds hs => ?_, fun hi hs => ?_⟩
  · exact hostWrite_cmd_error (decodeCmd_of_unknown hop) s
  · exact hostWrite_cmd_error (decodeCmd_of_reserved hop hwf) s
  · exact (hostWrite_cmd hi s).trans (exec_of_busy hneeds hs)
  · exact (hostWrite_cmd hi s).trans (exec_abort_of_sending hs)

/-! ## The answer to a host access -/

theorem locate_unmapped {off : Nat} (h : 0x100 ≤ off ∧ off < 0x10000 ∨ 0x30000 ≤ off) (n : Nat) :
    locate off n = .error .decErr := by
  have hreg : ¬off < 0x100 := by omega
  have htxb : ¬(0x10000 ≤ off ∧ off < 0x20000) := by omega
  have hrxb : ¬(0x20000 ≤ off ∧ off < 0x30000) := by omega
  simp only [locate, regionAt, hreg, htxb, hrxb, if_false]

theorem regionAt_mapped {off : Nat} (h : off < 0x100 ∨ 0x10000 ≤ off ∧ off < 0x30000) : ∃ r, regionAt off = some r := by
  unfold regionAt
  split_ifs with hreg htxb hrxb
  · exact ⟨_, rfl⟩
  · exact ⟨_, rfl⟩
  · exact ⟨_, rfl⟩
  · omega

theorem locate_misaligned {off n : Nat} (h : off < 0x100 ∨ 0x10000 ≤ off ∧ off < 0x30000) (halign : off % n ≠ 0) :
    locate off n = .error .align := by
  obtain ⟨r, hr⟩ := regionAt_mapped h
  simp only [locate, hr, if_pos halign]

theorem locate_reg {off n : Nat} (h : off < 0x100) (halign : off % n = 0) : locate off n = .ok .reg := by
  simp [locate, regionAt, h, halign]

theorem locate_rxb {off n : Nat} (hlo : 0x20000 ≤ off) (hhi : off < 0x30000) (halign : off % n = 0) :
    locate off n = .ok .rxb := by
  have hreg : ¬off < 0x100 := by omega
  have htxb : ¬off < 0x20000 := by omega
  simp [locate, regionAt, hreg, htxb, hlo, hhi, halign]

/-- A failed region or alignment check answers every access (R52). -/
theorem answers_of_locate_error {off n : Nat} {c : BusError} (h : locate off n = .error c) (s : State) :
    readWindow s off n = .error c ∧ checkWrite s off n = .error c := by
  simp only [readWindow, checkWrite, h, and_self]

/-- A failed size or offset check answers every access in REG (R53). -/
theorem answers_of_locateReg_error {off n : Nat} {c : BusError} (h : locate off n = .ok .reg)
    (hr : locateReg off n = .error c) (s : State) : readWindow s off n = .error c ∧ checkWrite s off n = .error c := by
  simp only [readWindow, checkWrite, h, hr, and_self]

theorem regAt_beyond {off : Nat} (h : 0x38 ≤ off) : regAt off = none := by
  unfold regAt
  split
  case h_15 => rfl
  all_goals omega

/-- The read-only registers and the locked ones by offset (R22, R53). -/
theorem regAt_access {off : Nat} {r : Reg} (h : regAt off = some r) :
    (r.readOnly = true ↔ off ∈ [0x000, 0x018, 0x01C, 0x020, 0x030, 0x034]) ∧
      (r.lockedInSending = true ↔ off ∈ [0x010, 0x014]) := by
  unfold regAt at h
  split at h <;> cases h <;> decide

/-- An aligned word access at a register's offset: a read is served, a write is checked for access type, then lock
(R53). -/
theorem answers_at_register {off : Nat} {r : Reg} (s : State) (hoff : off < 0x100) (halign : off % 4 = 0)
    (hr : regAt off = some r) :
    readWindow s off 4 = .ok (readReg r s) ∧
      checkWrite s off 4
        = if off ∈ [0x000, 0x018, 0x01C, 0x020, 0x030, 0x034] then .error .readOnly
          else if off ∈ [0x010, 0x014] ∧ s.fsm = .sending then .error .locked
          else .ok (.reg r) := by
  have hloc : locateReg off 4 = .ok r := by simp [locateReg, hr]
  obtain ⟨hro, hlk⟩ := regAt_access hr
  simp only [readWindow, checkWrite, locate_reg hoff halign, hloc, hro, hlk, and_self]

/-- An aligned access at the offsets of TX_BUF: range, then the lock of a write (R56, R57). -/
theorem answers_in_txb {off n : Nat} (s : State) (hlo : 0x10000 ≤ off) (hhi : off < 0x20000) (halign : off % n = 0) :
    (readWindow s off n = if 65535 < off - 0x10000 + n then .error .decErr else .ok (memRead s off n)) ∧
      (checkWrite s off n
        = if 65535 < off - 0x10000 + n then .error .decErr
          else if s.fsm = .sending then .error .locked else .ok (.txb off)) := by
  simp only [readWindow, checkWrite, locate_txb hlo hhi halign]
  exact ⟨rfl, rfl⟩

/-- An aligned access at the offsets of RX_BUF: range, then direction, then validity (R58). -/
theorem answers_in_rxb {off n : Nat} (s : State) (hlo : 0x20000 ≤ off) (hhi : off < 0x30000) (halign : off % n = 0) :
    (readWindow s off n
        = if 65535 < off - 0x20000 + n then .error .decErr
          else if s.rxValid = false ∨ s.rxSize.toNat < off - 0x20000 + n then .error .notValid
          else .ok (memRead s off n)) ∧
      (checkWrite s off n = if 65535 < off - 0x20000 + n then .error .decErr else .error .readOnly) := by
  simp only [readWindow, checkWrite, locate_rxb hlo hhi halign]
  exact ⟨rfl, rfl⟩

/-- Settles O44: the region and alignment checks answer for every access (`answers_of_locate_error`), then the checks of
the region reached. -/
theorem busErrorPriority : Obligations.BusErrorPriority := by
  refine fun s off n _ => ⟨fun hunmapped => ?_, fun hmapped halign => ?_, fun hreg halign => ⟨fun hsize => ?_,
    fun hword hbeyond => ?_, fun r hword hr => ?_⟩, answers_in_txb s, answers_in_rxb s⟩
  · exact answers_of_locate_error (locate_unmapped hunmapped n) s
  · exact answers_of_locate_error (locate_misaligned hmapped halign) s
  · exact answers_of_locateReg_error (locate_reg hreg halign) (if_pos hsize) s
  · have hnone : locateReg off n = .error .decErr := by simp [locateReg, hword, regAt_beyond hbeyond]
    exact answers_of_locateReg_error (locate_reg hreg halign) hnone s
  · subst hword
    exact answers_at_register s hreg halign hr

end Sys2Proof.Machine
end

section
/-! PROOFS. Reset (70_reset_and_hazards.md R230). -/

namespace Sys2Proof.Machine

/-- `Reset` is enabled in every state, so the step over it performs it. -/
theorem step_reset (s : State) : step (s.facing [.reset]) = .next (resetEvent s) := rfl

/-- No register reads what `Reset` keeps: after it each reads as in the state at the start of a run. -/
theorem readReg_resetEvent (r : Reg) (s : State) : readReg r (resetEvent s) = readReg r State.reset := by
  cases r <;> rfl

theorem readReg_reset_eq_zero {r : Reg} (h : r ≠ .id) : readReg r State.reset = 0#32 := by
  cases r
  case id => exact absurd rfl h
  all_goals decide

theorem readReg_resetEvent_eq_zero {r : Reg} (h : r ≠ .id) (s : State) : readReg r (resetEvent s) = 0#32 :=
  (readReg_resetEvent r s).trans (readReg_reset_eq_zero h)

theorem irq_resetEvent (s : State) : irq (resetEvent s) = false := rfl

/-- Settles O53: the next state is `resetEvent s`; its packed words read 0 by `readReg_resetEvent_eq_zero`, and its fields
are those of `State.reset`. -/
theorem resetClearsTheEngine : Obligations.ResetClearsTheEngine := by
  intro s
  have hstatus : statusWord (resetEvent s) = 0#32 := readReg_resetEvent_eq_zero (r := .status) nofun s
  have hirqEn : irqEnWord (resetEvent s) = 0#32 := readReg_resetEvent_eq_zero (r := .irqEn) nofun s
  have hrxInfo : rxInfoWord (resetEvent s) = 0#32 := readReg_resetEvent_eq_zero (r := .rxInfo) nofun s
  refine ⟨rfl, resetEvent s, step_reset s, ?_⟩
  simp [hstatus, hirqEn, hrxInfo, irq_resetEvent, State.reset, readReg, idWord]

end Sys2Proof.Machine
end

section
/-! PROOFS. The decoder and the encoder (30_encoding.md R81-R84, R89, R92): each is the other's inverse on its own port,
and the raw fields of a command word classify it. -/

namespace Sys2Proof.Machine

/-! ## A command word as its four bytes (20_memory.md R54) -/

theorem wordOfBytes_bytes (b0 b1 b2 b3 : Byte) :
    (wordOfBytes b0 b1 b2 b3).extractLsb' 0 8 = b0 ∧ (wordOfBytes b0 b1 b2 b3).extractLsb' 8 8 = b1 ∧
      (wordOfBytes b0 b1 b2 b3).extractLsb' 16 8 = b2 ∧ (wordOfBytes b0 b1 b2 b3).extractLsb' 24 8 = b3 := by
  simp [wordOfBytes, BitVec.extractLsb'_append_eq_of_le, BitVec.extractLsb'_append_eq_of_add_le, -Nat.reduceAdd]

@[simp] theorem cmdOp_wordOfBytes (b0 b1 b2 b3 : Byte) : cmdOp (wordOfBytes b0 b1 b2 b3) = b0 :=
  (wordOfBytes_bytes b0 b1 b2 b3).1

@[simp] theorem cmdData8_wordOfBytes (b0 b1 b2 b3 : Byte) : cmdData8 (wordOfBytes b0 b1 b2 b3) = b1 :=
  (wordOfBytes_bytes b0 b1 b2 b3).2.1

@[simp] theorem cmdForceV1_wordOfBytes (b0 b1 b2 b3 : Byte) :
    cmdForceV1 (wordOfBytes b0 b1 b2 b3) = b2.getLsbD 0 := by
  have hbit : ((wordOfBytes b0 b1 b2 b3).extractLsb' 16 8).getLsbD 0 = (wordOfBytes b0 b1 b2 b3).getLsbD 16 :=
    BitVec.getLsbD_extractLsb' 16 8 _ 0
  exact hbit.symm.trans (congrArg (·.getLsbD 0) (wordOfBytes_bytes b0 b1 b2 b3).2.2.1)

/-- A mask acts byte by byte. -/
theorem wordOfBytes_and (b0 b1 b2 b3 m0 m1 m2 m3 : Byte) :
    wordOfBytes b0 b1 b2 b3 &&& wordOfBytes m0 m1 m2 m3
      = wordOfBytes (b0 &&& m0) (b1 &&& m1) (b2 &&& m2) (b3 &&& m3) := by
  unfold wordOfBytes
  exact BitVec.and_append.trans (congrArg (· ++ (b0 &&& m0))
    (BitVec.and_append.trans (congrArg (· ++ (b1 &&& m1)) BitVec.and_append)))

theorem wordOfBytes_inj {b0 b1 b2 b3 c0 c1 c2 c3 : Byte} (h : wordOfBytes b0 b1 b2 b3 = wordOfBytes c0 c1 c2 c3) :
    b0 = c0 ∧ b1 = c1 ∧ b2 = c2 ∧ b3 = c3 := by
  obtain ⟨h0, h1, h2, h3⟩ := wordOfBytes_bytes b0 b1 b2 b3
  obtain ⟨g0, g1, g2, g3⟩ := wordOfBytes_bytes c0 c1 c2 c3
  rw [h] at h0 h1 h2 h3
  exact ⟨h0.symm.trans g0, h1.symm.trans g1, h2.symm.trans g2, h3.symm.trans g3⟩

/-! ## Decode of encode -/

/-- A word that passes the mask of its opcode's row decodes to the row's instruction (R84). -/
theorem decodeCmd_of_row {w : Word} {r : CmdRow} (hrow : cmdTable.find? (fun r => cmdOp r.pattern == cmdOp w) = some r)
    (hmask : w &&& r.mask = r.pattern) : decodeCmd w = .ok (r.build (cmdData8 w) (cmdForceV1 w)) := by
  simp only [decodeCmd, hrow, hmask, if_true]

theorem byte_and_ff (b : Byte) : b &&& 0xFF#8 = b := BitVec.and_allOnes

/-- CRC_BYTE and XOR_BYTE leave `DATA8` out of their mask, so every data byte passes (R83). -/
theorem data8_passes_mask (op d : Byte) :
    wordOfBytes op d 0#8 0#8 &&& 0xFFFF00FF#32 = wordOfBytes op 0#8 0#8 0#8 := by
  have hmask := wordOfBytes_and op d 0#8 0#8 0xFF#8 0#8 0xFF#8 0xFF#8
  rwa [byte_and_ff, BitVec.and_zero] at hmask

theorem decodeCmd_crcByte (d : Byte) : decodeCmd (wordOfBytes 0x02#8 d 0#8 0#8) = .ok (.crcByte d) := by
  have hrow : cmdTable.find? (fun r => cmdOp r.pattern == cmdOp (wordOfBytes 0x02#8 d 0#8 0#8))
      = some ⟨0x00000002#32, 0xFFFF00FF#32, fun d _ => .crcByte d⟩ := by
    rw [cmdOp_wordOfBytes]; rfl
  rw [decodeCmd_of_row hrow (data8_passes_mask 0x02#8 d), cmdData8_wordOfBytes]

theorem decodeCmd_xorByte (d : Byte) : decodeCmd (wordOfBytes 0x04#8 d 0#8 0#8) = .ok (.xorByte d) := by
  have hrow : cmdTable.find? (fun r => cmdOp r.pattern == cmdOp (wordOfBytes 0x04#8 d 0#8 0#8))
      = some ⟨0x00000004#32, 0xFFFF00FF#32, fun d _ => .xorByte d⟩ := by
    rw [cmdOp_wordOfBytes]; rfl
  rw [decodeCmd_of_row hrow (data8_passes_mask 0x04#8 d), cmdData8_wordOfBytes]

/-- Settles O1: an instruction without an operand, or with a flag, is a fixed encoding, which the decoder computes; a
data byte is read back by `decodeCmd_crcByte` and `decodeCmd_xorByte`. -/
theorem decodeOfEncodeIsIdentity : Obligations.DecodeOfEncodeIsIdentity := by
  intro i
  cases i with
  | crcByte d => exact decodeCmd_crcByte d
  | xorByte d => exact decodeCmd_xorByte d
  | send f | transact f => cases f <;> rfl
  | nop | crcClr | xorClr | receive | negotiate | abort | flushRx => rfl
  | hdrV1Request | hdrV2Request | hdrV1Response | hdrV1Error | hdrV2Response => rfl

/-- Settles O4: the decoder computes each of them. -/
theorem writtenOutWordsDecode : Obligations.WrittenOutWordsDecode :=
  ⟨rfl, rfl, rfl, rfl, rfl, rfl, rfl, rfl, rfl, rfl, rfl⟩

/-! ## Encode of decode -/

/-- Byte 2 under SEND's and TRANSACT's mask is `FORCE_V1` alone (R81). -/
theorem forceByte_of_masked {b : Byte} (h : b &&& 0xFE#8 = 0#8) : forceByte (b.getLsbD 0) = b := by
  revert b
  decide

/-- The three kinds of row, by the bits the mask leaves out: none, `DATA8`, or `FORCE_V1` (R83). -/
theorem cmdTable_kinds : ∀ r ∈ cmdTable, ∃ op : Byte, r.pattern = wordOfBytes op 0#8 0#8 0#8 ∧
    ((r.mask = wordOfBytes 0xFF#8 0xFF#8 0xFF#8 0xFF#8 ∧ ∀ d f, encode (r.build d f) = [op, 0#8, 0#8, 0#8]) ∨
      (r.mask = wordOfBytes 0xFF#8 0#8 0xFF#8 0xFF#8 ∧ ∀ d f, encode (r.build d f) = [op, d, 0#8, 0#8]) ∨
      (r.mask = wordOfBytes 0xFF#8 0xFF#8 0xFE#8 0xFF#8 ∧
        ∀ d f, encode (r.build d f) = [op, 0#8, forceByte f, 0#8])) := by
  simp only [cmdTable, List.forall_mem_cons]
  exact ⟨⟨0x00#8, rfl, .inl ⟨rfl, fun _ _ => rfl⟩⟩, ⟨0x01#8, rfl, .inl ⟨rfl, fun _ _ => rfl⟩⟩,
    ⟨0x02#8, rfl, .inr (.inl ⟨rfl, fun _ _ => rfl⟩)⟩, ⟨0x03#8, rfl, .inl ⟨rfl, fun _ _ => rfl⟩⟩,
    ⟨0x04#8, rfl, .inr (.inl ⟨rfl, fun _ _ => rfl⟩)⟩, ⟨0x10#8, rfl, .inr (.inr ⟨rfl, fun _ _ => rfl⟩)⟩,
    ⟨0x11#8, rfl, .inl ⟨rfl, fun _ _ => rfl⟩⟩, ⟨0x12#8, rfl, .inr (.inr ⟨rfl, fun _ _ => rfl⟩)⟩,
    ⟨0x13#8, rfl, .inl ⟨rfl, fun _ _ => rfl⟩⟩, ⟨0x14#8, rfl, .inl ⟨rfl, fun _ _ => rfl⟩⟩,
    ⟨0x15#8, rfl, .inl ⟨rfl, fun _ _ => rfl⟩⟩, nofun⟩

/-- A row of the table and its operand bytes give back the word they were read from (R83). -/
theorem encode_build_of_row {r : CmdRow} (hr : r ∈ cmdTable) {b0 b1 b2 b3 : Byte}
    (h : wordOfBytes b0 b1 b2 b3 &&& r.mask = r.pattern) : encode (r.build b1 (b2.getLsbD 0)) = [b0, b1, b2, b3] := by
  obtain ⟨op, hpat, hkind⟩ := cmdTable_kinds r hr
  rw [hpat] at h
  rcases hkind with ⟨hmask, henc⟩ | ⟨hmask, henc⟩ | ⟨hmask, henc⟩ <;>
    (rw [hmask, wordOfBytes_and] at h
     obtain ⟨h0, h1, h2, h3⟩ := wordOfBytes_inj h
     simp only [byte_and_ff] at h0 h1 h2 h3
     subst h0 h3)
  · subst h1 h2; exact henc _ _
  · subst h2; exact henc _ _
  · subst h1; rw [henc, forceByte_of_masked h2]

/-- A word that decodes passes the mask of a row, which builds the instruction (R84). -/
theorem decodeCmd_ok {w : Word} {i : Instr} (h : decodeCmd w = .ok i) :
    ∃ r ∈ cmdTable, w &&& r.mask = r.pattern ∧ i = r.build (cmdData8 w) (cmdForceV1 w) := by
  cases hrow : cmdTable.find? (fun r => cmdOp r.pattern == cmdOp w) with
  | none => simp [decodeCmd, hrow] at h
  | some r =>
    simp only [decodeCmd, hrow] at h
    split at h
    · next hmask => exact ⟨r, List.mem_of_find?_eq_some hrow, hmask, (Except.ok.inj h).symm⟩
    · cases h

/-- The bytes of a command word are the encoding of what it decodes to. -/
theorem encode_of_decodeCmd {b0 b1 b2 b3 : Byte} {i : Instr} (h : decodeCmd (wordOfBytes b0 b1 b2 b3) = .ok i) :
    encode i = [b0, b1, b2, b3] := by
  obtain ⟨r, hr, hmask, rfl⟩ := decodeCmd_ok h
  rw [cmdData8_wordOfBytes, cmdForceV1_wordOfBytes]
  exact encode_build_of_row hr hmask

/-- The length of an encoding tells the port. -/
theorem port_eq_command_of_length {i : Instr} (h : (encode i).length = 4) : i.port = .command := by
  cases i with
  | hdrV1Request | hdrV2Request | hdrV1Response | hdrV1Error | hdrV2Response => cases h
  | nop | crcClr | crcByte | xorClr | xorByte | send | receive | transact | negotiate | abort | flushRx => rfl

theorem headerTable_encodes : ∀ r ∈ headerTable, r.instr.port = .wire ∧ encode r.instr = [r.b0, r.b1, r.b2] := by
  decide

/-- The bytes of a header are the encoding of what it decodes to (R89). -/
theorem encode_of_decodeHeader {b0 b1 b2 : Byte} {i : Instr} (h : decodeHeader b0 b1 b2 = .ok i) :
    i.port = .wire ∧ encode i = [b0, b1, b2] := by
  cases hrow : headerTable.find? (fun r => r.b0 == b0 && r.b1 == b1 && r.b2 == b2) with
  | none => simp [decodeHeader, hrow] at h
  | some r =>
    simp only [decodeHeader, hrow] at h
    cases h
    have hbytes := List.find?_some (p := fun r : HeaderRow => r.b0 == b0 && r.b1 == b1 && r.b2 == b2) hrow
    simp only [Bool.and_eq_true, beq_iff_eq] at hbytes
    obtain ⟨⟨rfl, rfl⟩, rfl⟩ := hbytes
    exact headerTable_encodes r (List.mem_of_find?_eq_some hrow)

/-- Settles O2: bytes of a port's length are read by that port's table (`encode_of_decodeCmd`,
`encode_of_decodeHeader`), bytes of any other length are refused. -/
theorem decodedBytesAreTheEncoding : Obligations.DecodedBytesAreTheEncoding := by
  intro p bytes i h
  unfold decode at h
  split at h
  · have henc := encode_of_decodeCmd h
    exact ⟨port_eq_command_of_length (by rw [henc]; rfl), henc⟩
  · exact encode_of_decodeHeader h
  · cases h

theorem wordOfBytes_of_bytes (w : Word) :
    wordOfBytes (w.extractLsb' 0 8) (w.extractLsb' 8 8) (w.extractLsb' 16 8) (w.extractLsb' 24 8) = w := by
  have hhigh : w.extractLsb' 24 8 ++ w.extractLsb' 16 8 = w.extractLsb' 16 16 :=
    BitVec.extractLsb'_append_extractLsb'_eq_extractLsb' rfl
  have hupper : w.extractLsb' 16 16 ++ w.extractLsb' 8 8 = w.extractLsb' 8 24 :=
    BitVec.extractLsb'_append_extractLsb'_eq_extractLsb' rfl
  have hall : w.extractLsb' 8 24 ++ w.extractLsb' 0 8 = w.extractLsb' 0 32 :=
    BitVec.extractLsb'_append_extractLsb'_eq_extractLsb' rfl
  unfold wordOfBytes
  rw [hhigh, hupper, hall, BitVec.extractLsb'_eq_self]

/-- A command has one word only (R83). -/
theorem encodeCmd_of_decodeCmd {w : Word} {i : Instr} (h : decodeCmd w = .ok i) : encodeCmd? i = some w := by
  rw [← wordOfBytes_of_bytes w] at h ⊢
  simp only [encodeCmd?, encode_of_decodeCmd h]

/-! ## The classification of command words (R81, R83, R84) -/

/-- Words with an equal field agree on its bits. -/
theorem getLsbD_eq_of_extractLsb'_eq {v w : Word} {start len : Nat}
    (h : v.extractLsb' start len = w.extractLsb' start len) {i : Nat} (hlo : start ≤ i) (hhi : i < start + len) :
    v.getLsbD i = w.getLsbD i := by
  have hbit := congrArg (·.getLsbD (i - start)) h
  simpa [BitVec.getLsbD_extractLsb', show i - start < len by omega, show start + (i - start) = i by omega] using hbit

/-- The four fields cover the word. -/
theorem cmdFields_injective : Function.Injective cmdFields := by
  intro v w h
  obtain ⟨hop, hdata, hforce, hres⟩ := Cmd32.mk.inj h
  refine BitVec.eq_of_getLsbD_eq fun i hi => ?_
  by_cases h8 : i < 8
  · exact getLsbD_eq_of_extractLsb'_eq hop (Nat.zero_le i) (by omega)
  by_cases h16 : i < 16
  · exact getLsbD_eq_of_extractLsb'_eq hdata (by omega) (by omega)
  by_cases hf : i = 16
  · subst hf; exact hforce
  · exact getLsbD_eq_of_extractLsb'_eq hres (by omega) (by omega)

/-- The mask of a row covers the opcode and leaves out the row's operand, and its pattern is the opcode alone (R83). -/
theorem cmdTable_masks : ∀ r ∈ cmdTable,
    (cmdFields r.mask).op = BitVec.allOnes 8 ∧ (cmdFields r.pattern).data8 = 0#8 ∧
    (cmdFields r.pattern).forceV1 = false ∧ (cmdFields r.pattern).reserved = 0#15 ∧
    (cmdOp r.pattern = 0x02#8 ∨ cmdOp r.pattern = 0x04#8 → (cmdFields r.mask).data8 = 0#8) ∧
    (cmdOp r.pattern = 0x10#8 ∨ cmdOp r.pattern = 0x12#8 → (cmdFields r.mask).forceV1 = false) := by
  decide

/-- The fields of a masked word are the fields under the mask's. -/
theorem cmdFields_and (w mask : Word) : cmdFields (w &&& mask) =
    { op := (cmdFields w).op &&& (cmdFields mask).op
      data8 := (cmdFields w).data8 &&& (cmdFields mask).data8
      forceV1 := (cmdFields w).forceV1 && (cmdFields mask).forceV1
      reserved := (cmdFields w).reserved &&& (cmdFields mask).reserved } := by
  simp [cmdFields, cmdOp, cmdData8, cmdForceV1, BitVec.extractLsb'_and]

theorem wellFormed_iff (c : Cmd32) :
    c.wellFormed = true ↔ c.opKnown = true ∧ ((c.op = 0x02#8 ∨ c.op = 0x04#8) ∨ c.data8 = 0#8) ∧
      ((c.op = 0x10#8 ∨ c.op = 0x12#8) ∨ c.forceV1 = false) ∧ c.reserved = 0#15 := by
  simp [Cmd32.wellFormed, Cmd32.data8Ok, Cmd32.forceV1Ok, Cmd32.reservedOk, and_assoc]

/-- A word with zero unused fields passes the mask of its opcode's row. -/
theorem masked_of_wellFormed {w : Word} {r : CmdRow} (hr : r ∈ cmdTable) (hop : cmdOp r.pattern = cmdOp w)
    (hwf : (cmdFields w).wellFormed = true) : w &&& r.mask = r.pattern := by
  obtain ⟨-, hdata, hforce, hres⟩ := (wellFormed_iff _).mp hwf
  obtain ⟨mop, pdata, pforce, pres, mdata, mforce⟩ := cmdTable_masks r hr
  rw [hop] at mdata mforce
  have hdata0 : (cmdFields w).data8 &&& (cmdFields r.mask).data8 = 0#8 := by
    rcases hdata with hused | h0
    · rw [mdata hused, BitVec.and_zero]
    · rw [h0, BitVec.zero_and]
  have hforce0 : ((cmdFields w).forceV1 && (cmdFields r.mask).forceV1) = false := by
    rcases hforce with hused | h0
    · rw [mforce hused, Bool.and_false]
    · rw [h0, Bool.false_and]
  apply cmdFields_injective
  rw [cmdFields_and, mop, hdata0, hforce0, hres, BitVec.zero_and, BitVec.and_allOnes, ← pdata, ← pforce, ← pres]
  exact congrArg (fun op => { cmdFields r.pattern with op := op }) hop.symm

/-- A well-formed word decodes (R81, R84). -/
theorem decodeCmd_of_wellFormed {w : Word} (h : (cmdFields w).wellFormed = true) : ∃ i, decodeCmd w = .ok i := by
  have hknown := ((wellFormed_iff _).mp h).1
  rw [← cmdTable_any_eq_opKnown, List.any_eq_true, ← List.find?_isSome, Option.isSome_iff_exists] at hknown
  obtain ⟨r, hrow⟩ := hknown
  have hop : cmdOp r.pattern = cmdOp w :=
    eq_of_beq (List.find?_some (p := fun r : CmdRow => cmdOp r.pattern == cmdOp w) hrow)
  exact ⟨_, decodeCmd_of_row hrow (masked_of_wellFormed (List.mem_of_find?_eq_some hrow) hop h)⟩

/-- Settles O3: a word has a known opcode or not, and is well formed or not; each combination has one outcome, and the
outcomes exclude each other. -/
theorem commandWordDecodeClassified : Obligations.CommandWordDecodeClassified := by
  intro w
  cases hop : (cmdFields w).opKnown with
  | false =>
    have hwf : (cmdFields w).wellFormed = false := by simp [Cmd32.wellFormed, hop]
    simp [decodeCmd_of_unknown hop, hwf]
  | true =>
    cases hwf : (cmdFields w).wellFormed with
    | false => simp [decodeCmd_of_reserved hop hwf]
    | true =>
      obtain ⟨i, hi⟩ := decodeCmd_of_wellFormed hwf
      simp [hi]

end Sys2Proof.Machine
end

section
/-! PROOFS. One step and one instruction: which event comes next (00_scope.md R11), what a command word and a header run
(30_encoding.md R80, R89), and what each instruction does (40_integrity.md, 41_transmit.md, 42_receive.md,
43_session.md). -/

namespace Sys2Proof.Machine

/-! ## The step (R11) -/

/-- Settles O5: `hostWrite_cmd`. -/
theorem stepRunsDecodedCommand : Obligations.StepRunsDecodedCommand := fun s _ _ hi => hostWrite_cmd hi s

theorem rxHeader_of_decode {b1 b2 : Byte} {i : Instr} (h : decode .wire [0x24#8, b1, b2] = .ok i) (s : State) :
    rxHeader b1 b2 s = exec i s := by
  simp only [rxHeader, h]

/-- Settles O6: in GOT_M and GOT_X an RxStep runs the header its byte completes. -/
theorem stepRunsDecodedHeader : Obligations.StepRunsDecodedHeader := by
  refine fun s b q i => ⟨fun h => ?_, fun h => ?_⟩
  · exact (step_rxStep rfl s b q []).trans (rxHeader_of_decode h _)
  · exact (step_rxStep rfl s b q []).trans (rxHeader_of_decode h _)

/-- Settles O7: `runEvent` performs an enabled event and drops any other; past the schedule `nextEvent` asks the
environment. -/
theorem anyEventMayComeNext : Obligations.AnyEventMayComeNext := by
  refine fun s => ⟨fun e he => ?_, fun e he => ?_, rfl⟩
  · exact if_pos he
  · exact if_neg (Bool.eq_false_iff.mp he)

/-! ## The integrity commands (R105-R109) -/

/-- Settles O9: each meaning is the update the statement writes out. -/
theorem integrityCommandsComplete : Obligations.IntegrityCommandsComplete := fun _ _ =>
  ⟨rfl, rfl, rfl, rfl, rfl⟩

/-- The state after a `CMD` write whose instruction leads to `next b`. -/
def afterCommand (next : Byte → State → State) (s : State) (b : Byte) : State :=
  next b { s with bus := some .writeOkay }

/-- A run of `CMD` writes of one command, a byte in each, performs the command once for each byte. -/
theorem run_byteCommands {word : Byte → Word} {instr : Byte → Instr} {next : Byte → State → State}
    (hword : ∀ b, decodeCmd (word b) = .ok (instr b)) (hexec : ∀ b s, exec (instr b) s = .next (next b s)) (s : State)
    (m : List Byte) :
    Host.Core.run core m.length (s.facing (m.map fun b => .hostWrite cmdOffset .word (word b)))
      = .next (m.foldl (afterCommand next) s) := by
  induction m generalizing s with
  | nil => rfl
  | cons b m ih =>
    have hwrite : hostWrite cmdOffset .word (word b) s = .next (afterCommand next s b) :=
      (hostWrite_cmd (hword b) s).trans (hexec b _)
    have hfirst : step (s.facing ((b :: m).map fun b => .hostWrite cmdOffset .word (word b)))
        = .next ((afterCommand next s b).facing (m.map fun b => .hostWrite cmdOffset .word (word b))) :=
      hostWrite_facing hwrite _
    exact (run_succ _ hfirst).trans (ih _)

theorem foldl_crcByte (b : Byte) (m : List Byte) (s : State) :
    (b :: m).foldl (afterCommand fun b s => { s with crcAcc := crc8Step s.crcAcc b }) s
      = { s with crcAcc := (b :: m).foldl crc8Step s.crcAcc, bus := some .writeOkay } := by
  induction m generalizing b s with
  | nil => rfl
  | cons c m ih => exact ih c _

theorem foldl_xorByte (b : Byte) (m : List Byte) (s : State) :
    (b :: m).foldl (afterCommand fun b s => { s with xorAcc := s.xorAcc ^^^ b }) s
      = { s with xorAcc := (b :: m).foldl (fun x b => x ^^^ b) s.xorAcc, bus := some .writeOkay } := by
  induction m generalizing b s with
  | nil => rfl
  | cons c m ih => exact ih c _

theorem foldl_xor_eq (m : List Byte) (c : Byte) : m.foldl (fun x b => x ^^^ b) c = c ^^^ foldXor m := by
  rw [← BitVec.zero_xor (x := c), foldl_xor_start, BitVec.zero_xor, BitVec.xor_comm]
  rfl

/-- Settles O11: the writes perform their commands (`run_byteCommands`), and each command folds its byte in. -/
theorem integrityRunsFoldTheirBytes : Obligations.IntegrityRunsFoldTheirBytes := by
  intro s m hm
  obtain ⟨b, m, rfl⟩ := List.exists_cons_of_ne_nil hm
  refine ⟨?_, ?_, fun hclear => by rw [hclear]; rfl⟩
  · rw [run_byteCommands decodeCmd_crcByte fun _ _ => rfl, ← foldl_crcByte]
    rfl
  · rw [run_byteCommands decodeCmd_xorByte fun _ _ => rfl, ← foldl_xor_eq, ← foldl_xorByte]
    rfl

/-! ## The long operations -/

theorem exec_receive_of_idle {s : State} (hs : s.fsm = .idle) :
    exec .receive s = .next (rxBegin { opBegin s with op := .receive }) :=
  congrArg Host.Outcome.next (whenIdle_of_idle hs _)

/-- Settles O22: in IDLE RECEIVE runs `op_begin` and `rx_begin`, which the statement writes out. -/
theorem receiveCompletes : Obligations.ReceiveCompletes := fun _ hs => exec_receive_of_idle hs

/-- The three sending commands in IDLE, each with its kind and its family (R130, R180, R184). -/
theorem exec_sending_of_idle {s : State} {f : Bool} {i : Instr} {kind : LongOp} {fam : Family} (hs : s.fsm = .idle)
    (h : (i = .send f ∧ kind = .send ∧ fam = chooseFamily s f) ∨
      (i = .transact f ∧ kind = .transact ∧ fam = chooseFamily s f) ∨
      (i = .negotiate ∧ kind = .negotiate ∧ fam = .v2)) :
    exec i s = .next (startSend kind fam (opBegin s)) := by
  obtain ⟨hsend, htransact, hnegotiate⟩ := (familyChoice s f).2.2 hs
  rcases h with ⟨rfl, rfl, rfl⟩ | ⟨rfl, rfl, rfl⟩ | ⟨rfl, rfl, rfl⟩
  · exact hsend
  · exact htransact
  · exact hnegotiate

theorem startSend_of_ok {kind : LongOp} {fam : Family} {s : State} {frame : List Byte} (h : build fam s = .ok frame) :
    startSend kind fam s = latchFrame kind fam frame s := by
  simp only [startSend, h]

theorem startSend_of_error {kind : LongOp} {fam : Family} {s : State} {r : Result} (h : build fam s = .error r) :
    startSend kind fam s = finish r s := by
  simp only [startSend, h]

/-- `op_begin` leaves what `build` reads. -/
theorem build_opBegin (fam : Family) (s : State) : build fam (opBegin s) = build fam s :=
  build_congr fam rfl rfl fun _ _ _ => rfl

/-- Settles O16: `exec_sending_of_idle`, then the two outcomes of `start_send`; in IDLE a refusal leaves the control
state as it is. -/
theorem sendingCommandsComplete : Obligations.SendingCommandsComplete := by
  refine fun s f i kind fam hs hi => ⟨fun frame hbuild => ?_, fun r hbuild => ?_⟩
  · rw [exec_sending_of_idle hs hi, startSend_of_ok ((build_opBegin fam s).trans hbuild)]
    rfl
  · rw [exec_sending_of_idle hs hi, startSend_of_error ((build_opBegin fam s).trans hbuild),
      finish_eq_of_ne (build_error_ne_rxOkV2 hbuild), ← hs]
    rfl

/-- Settles O39: the three cases of ABORT, and FLUSH_RX in IDLE. -/
theorem abortAndFlushComplete : Obligations.AbortAndFlushComplete := by
  refine fun s => ⟨fun hrx => ?_, fun hs => exec_abort_of_sending hs, fun hs => ?_, fun hs => ⟨?_, rfl⟩⟩
  · rw [← finish_eq_of_ne (by decide)]
    exact congrArg Host.Outcome.next (if_pos hrx)
  · simp [exec, execAbort, hs, Fsm.isRx]
  · exact congrArg Host.Outcome.next (whenIdle_of_idle hs _)

/-! ## The headers (R149, R150, R163) -/

theorem atHeader_of_ne {f : Fsm} {s : State} (h : s.fsm ≠ f) (run : State → State) : atHeader f run s = s := if_neg h

/-- Settles O25: at its third byte a header does what its meaning says; `finish_eq_of_ne` writes out the REJECTED
finish. -/
theorem headersComplete : Obligations.HeadersComplete := by
  refine fun s => ⟨fun hs => ⟨?_, ?_, ?_⟩, fun hs => ⟨?_, ?_⟩⟩
  case refine_3 =>
    rw [← finish_eq_of_ne (by decide)]
    exact congrArg Host.Outcome.next (atHeader_of_eq hs _)
  all_goals exact congrArg Host.Outcome.next (atHeader_of_eq hs _)

/-- Settles O26: elsewhere `atHeader` leaves the state as it is. -/
theorem headersElsewhereChangeNothing : Obligations.HeadersElsewhereChangeNothing := by
  refine fun s => ⟨fun hs => ⟨?_, ?_, ?_⟩, fun hs => ⟨?_, ?_⟩⟩
  all_goals exact congrArg Host.Outcome.next (atHeader_of_ne hs _)

/-- Settles O31: the rule of a payload state faults where `rx_idx` names no byte of RX_BUF. -/
theorem payloadOutsideBufferFaults : Obligations.PayloadOutsideBufferFaults := by
  intro s b q f hf hidx
  rcases hf with rfl | rfl
  · exact (step_rxStep rfl s b q []).trans (if_neg (Nat.not_lt.mpr hidx))
  · exact (step_rxStep rfl s b q []).trans (if_neg (Nat.not_lt.mpr hidx))

end Sys2Proof.Machine
end

section
/-! PROOFS. Reads and writes of the host window (10_state.md R22-R43, 20_memory.md R54-R56), and what the reset state
reads (70_reset_and_hazards.md R230). -/

namespace Sys2Proof.Machine

/-! ## Registers -/

/-- `RX_INFO` as its two fields, shifted into place (R38). -/
theorem rxInfoWord_eq (s : State) :
    rxInfoWord s = (BitVec.ofBool s.rxIsV2).zeroExtend 32 <<< 8 ||| s.rxFlag.zeroExtend 32 := by
  refine BitVec.eq_of_getLsbD_eq fun i hi => ?_
  simp only [rxInfoWord, bit, BitVec.getLsbD_append, BitVec.getLsbD_or, BitVec.getLsbD_shiftLeft,
    BitVec.getLsbD_setWidth, BitVec.getLsbD_ofBool, BitVec.getLsbD_zero]
  grind

/-- Settles O45: each offset holds its register, which reads by definition what the statement says; `RX_INFO` is
`rxInfoWord_eq`. -/
theorem registerMapReads : Obligations.RegisterMapReads := by
  intro s
  rw [← rxInfoWord_eq]
  exact ⟨rfl, rfl, rfl, rfl, rfl, rfl, rfl, rfl, rfl, rfl, rfl, rfl, rfl, rfl⟩

/-- A 4-byte write that passes its checks stores into a plain register. -/
theorem hostWrite_reg (off : Word) {r : Reg} {s : State} (hc : checkWrite s off.toNat 4 = .ok (.reg r)) (hr : r ≠ .cmd)
    (v : Word) : hostWrite off .word v s = .next (writeReg r v { s with bus := some .writeOkay }) :=
  (hostWrite_of_ok (n := .word) hc v).trans (writeTarget_reg hr 4 v _)

theorem writeStatus_eq (v : Word) (s : State) :
    writeStatus v s = { s with
      done := if v.getLsbD 16 then false else s.done
      cmdErr := if v.getLsbD 17 then false else s.cmdErr
      rxOverrun := if v.getLsbD 18 then false else s.rxOverrun } := by
  simp [writeStatus, Bool.and_comm]

/-- Settles O48: the write reaches `writeStatus`, whose flags `writeStatus_eq` writes as the statement does. -/
theorem statusWriteClearsFlags : Obligations.StatusWriteClearsFlags := by
  intro s v
  rw [step_hostWrite, facing_nil, hostWrite_reg 0x008#32 (r := .status) rfl nofun]
  exact congrArg Host.Outcome.next (writeStatus_eq v _)

/-- The bits of `IRQ_EN` that a write keeps (R33). -/
theorem irqEnMask_getLsbD_iff (i : Nat) : (0x00070000#32).getLsbD i = true ↔ i = 16 ∨ i = 17 ∨ i = 18 := by
  by_cases hi : i < 32
  · revert i; decide
  · have hout : (0x00070000#32).getLsbD i = false := BitVec.getLsbD_of_ge _ _ (Nat.le_of_not_lt hi)
    rw [hout]
    exact ⟨nofun, by omega⟩

theorem irqEnWord_writeIrqEn (v : Word) (s : State) : irqEnWord (writeIrqEn v s) = v &&& 0x00070000#32 := by
  refine BitVec.eq_of_getLsbD_eq fun i _ => Bool.eq_iff_iff.mpr ?_
  rw [irqEnWord_getLsbD_iff, BitVec.getLsbD_and, Bool.and_eq_true, irqEnMask_getLsbD_iff]
  simp only [writeIrqEn]
  constructor
  · rintro (⟨rfl, h⟩ | ⟨rfl, h⟩ | ⟨rfl, h⟩) <;> simp [h]
  · rintro ⟨h, rfl | rfl | rfl⟩ <;> simp [h]

/-- The low bits of a word, stored and read back, are the word under a mask. -/
theorem zeroExtend_low16 (v : Word) : (v.setWidth 16).zeroExtend 32 = v &&& 0x0000FFFF#32 := by
  have hmask : v.toNat &&& 0xFFFF = v.toNat % 2 ^ 16 := Nat.and_two_pow_sub_one_eq_mod v.toNat 16
  have hfits : v.toNat % 2 ^ 16 < 2 ^ 32 := by omega
  apply BitVec.eq_of_toNat_eq
  rw [BitVec.toNat_setWidth, BitVec.toNat_setWidth, Nat.mod_eq_of_lt hfits]
  exact hmask.symm

theorem zeroExtend_low8 (v : Word) : (v.setWidth 8).zeroExtend 32 = v &&& 0x000000FF#32 := by
  have hmask : v.toNat &&& 0xFF = v.toNat % 2 ^ 8 := Nat.and_two_pow_sub_one_eq_mod v.toNat 8
  have hfits : v.toNat % 2 ^ 8 < 2 ^ 32 := by omega
  apply BitVec.eq_of_toNat_eq
  rw [BitVec.toNat_setWidth, BitVec.toNat_setWidth, Nat.mod_eq_of_lt hfits]
  exact hmask.symm

/-- A word write of a writable register passes where the register is not locked (R53, R57). -/
theorem checkWrite_register {s : State} {off : Nat} {r : Reg} (hoff : off < 0x100) (halign : off % 4 = 0)
    (hr : regAt off = some r) (hro : r.readOnly = false) (hlk : ¬(r.lockedInSending = true ∧ s.fsm = .sending)) :
    checkWrite s off 4 = .ok (.reg r) := by
  have hloc : locateReg off 4 = .ok r := by simp [locateReg, hr]
  simp [checkWrite, locate_reg hoff halign, hloc, hro, hlk]

/-- Settles O47: the write passes its checks and stores, and the register reads back what the lemmas above say. -/
theorem registerWritesReadBack : Obligations.RegisterWritesReadBack := by
  refine fun s v => ⟨⟨?_, ?_⟩, fun hs => ⟨?_, ?_⟩, fun hs => ⟨?_, rfl⟩, ⟨?_, ?_⟩, ⟨?_, ?_⟩, ⟨?_, rfl⟩⟩
  · exact hostWrite_reg 0x00C#32 (r := .irqEn) rfl nofun v
  · exact congrArg Except.ok (irqEnWord_writeIrqEn v s)
  · exact hostWrite_reg 0x010#32 (r := .txCode)
      (checkWrite_register (by decide) (by decide) rfl rfl fun h => hs h.2) nofun v
  · exact congrArg Except.ok (zeroExtend_low16 v)
  · exact hostWrite_reg 0x014#32 (r := .txSize)
      (checkWrite_register (by decide) (by decide) rfl rfl fun h => hs h.2) nofun v
  · exact hostWrite_reg 0x024#32 (r := .crcAcc) rfl nofun v
  · exact congrArg Except.ok (zeroExtend_low8 v)
  · exact hostWrite_reg 0x028#32 (r := .xorAcc) rfl nofun v
  · exact congrArg Except.ok (zeroExtend_low8 v)
  · exact hostWrite_reg 0x02C#32 (r := .timeout) rfl nofun v

/-! ## TX_BUF (R54-R56) -/

theorem checkWrite_txb {s : State} {off n : Nat} (hs : s.fsm ≠ .sending) (hn : 0 < n) (hlo : 0x10000 ≤ off)
    (hhi : off + n ≤ 0x1FFFF) (halign : off % n = 0) : checkWrite s off n = .ok (.txb off) := by
  rw [(answers_in_txb s hlo (by omega) halign).2, if_neg (by omega), if_neg hs]

theorem readWindow_txb {s : State} {off n : Nat} (hn : 0 < n) (hlo : 0x10000 ≤ off) (hhi : off + n ≤ 0x1FFFF)
    (halign : off % n = 0) : readWindow s off n = .ok (memRead s off n) := by
  rw [(answers_in_txb s hlo (by omega) halign).1, if_neg (by omega)]

theorem memWrite_withBus (s : State) (a : Nat) (v : Word) (n : Nat) (answer : Option BusAnswer) :
    memWrite { s with bus := answer } a v n = { memWrite s a v n with bus := answer } := by
  induction n with
  | zero => rfl
  | succ n ih => rw [memWrite, ih]; rfl

/-- Bytes that are those of a word, lowest offset first, read as the word's low bytes (R55). -/
theorem memRead_of_bytes {s : State} {a : Nat} {v : Word} {n : Nat}
    (h : ∀ i, i < n → readByte s (a + i) = v.extractLsb' (8 * i) 8) :
    memRead s a n = BitVec.ofNat 32 (v.toNat % 2 ^ (8 * n)) := by
  induction n with
  | zero => simp [memRead, Nat.mod_one]
  | succ n ih =>
    have hsplit : v.toNat % 2 ^ (8 * (n + 1))
        = v.toNat % 2 ^ (8 * n) + 2 ^ (8 * n) * (v.toNat / 2 ^ (8 * n) % 2 ^ 8) := by
      rw [Nat.mul_succ, Nat.pow_add, Nat.mod_mul]
    rw [memRead, ih fun i hi => h i (by omega), h n (by omega), hsplit]
    apply BitVec.eq_of_toNat_eq
    simp [BitVec.extractLsb'_toNat, Nat.shiftLeft_eq, Nat.shiftRight_eq_div_pow, Nat.mul_comm]

/-- Settles O50: the write stores by `memWrite`, whose laws say what each byte reads afterwards. -/
theorem txBufWritesReadBack : Obligations.TxBufWritesReadBack := by
  intro s off v n hs hlo hhi halign
  have hbytes : ∀ i, i < n.bytes →
      readByte (memWrite s off.toNat v n.bytes) (off.toNat + i) = v.extractLsb' (8 * i) 8 :=
    readByte_memWrite_inside s off.toNat v n.bytes
  have hmem := memWrite_eq s off.toNat v n.bytes
  refine ⟨(memWrite s off.toNat v n.bytes).mem, ?_, ?_, ?_, ?_⟩
  · rw [step_hostWrite, facing_nil, hostWrite_of_ok (checkWrite_txb hs n.bytes_pos hlo hhi halign),
      writeTarget_txb, memWrite_withBus, hmem]
  · rwa [← hmem]
  · rw [← hmem]
    exact readByte_memWrite_outside s off.toNat v n.bytes
  · rw [← hmem, readWindow_txb n.bytes_pos hlo hhi halign, memRead_of_bytes hbytes]

/-! ## The state after reset -/

/-- Settles O54: by `readReg_reset_eq_zero`; nothing is written in `State.reset`, nor after `resetEvent`, so each byte
reads as its draw. -/
theorem resetStateReadsZero : Obligations.ResetStateReadsZero :=
  ⟨fun _ hr => readReg_reset_eq_zero hr, rfl, rfl, rfl, fun _ => rfl,
    fun s => ⟨resetEvent s, step_reset s, fun _ => rfl, rfl, rfl, rfl⟩⟩

end Sys2Proof.Machine
end

section
/-! PROOFS. What a consumed byte and each other event can do (42_receive.md R145-R161, 00_scope.md R11), and from it the
output log, the order of the RX FIFO (20_memory.md R63, R64) and how an operation ends (42_receive.md R170). -/

namespace Sys2Proof.Machine

/-! ## What a consumed byte can do (R145-R161) -/

/-- In control state `f`, with this length and payload count, no payload byte has been stored yet. -/
def NoPayloadYet (f : Fsm) (len : BitVec 16) (idx : BitVec 17) : Prop :=
  (f = .v1Payload ∨ f = .v2Payload → idx = 0) ∧ (f = .v1Check ∨ f = .v2Crc → len = 0)

theorem noPayloadYet_ite {p : Prop} [Decidable p] {f g : Fsm} {len : BitVec 16} {idx : BitVec 17}
    (hf : p → NoPayloadYet f len idx) (hg : NoPayloadYet g len idx) : NoPayloadYet (if p then f else g) len idx := by
  split
  · next hp => exact hf hp
  · exact hg

/-- The outcomes of a byte: ignored outside the receive states; the decode goes on, a payload byte stored or not; the
phase fails; or a frame is published. -/
inductive RxEffect (b : Byte) (s : State) : State → Prop
  | ignored : RxEffect b s s
  | decodes {f : Fsm} {acc flag : Byte} {len code : BitVec 16} {idx : BitVec 17} (hs : s.fsm.isRx = true)
      (hf : f.isRx = true) (hnone : NoPayloadYet f len idx) :
      RxEffect b s { s with fsm := f, acc := acc, rxLen := len, rxCodeSh := code, rxFlagSh := flag, rxIdx := idx }
  | stores {f : Fsm} {acc : Byte} (hs : s.fsm = .v1Payload ∨ s.fsm = .v2Payload) (hf : f.isRx = true)
      (hidx : s.rxIdx.toNat < bufLen) : RxEffect b s { storePayload b s with acc := acc, fsm := f }
  | fails {r : Result} (hs : s.fsm.isRx = true) (hr : r = .rejected ∨ r = .checksumMismatch ∨ r = .crcMismatch) :
      RxEffect b s (finish r s)
  | publishesV1 (hs : s.fsm = .v1Check) : RxEffect b s (finish .rxOkV1 (commit .v1 s))
  | publishesV2 (hs : s.fsm = .v2Crc) : RxEffect b s (finish .rxOkV2 (commit .v2 s))

theorem isRx_ite {p : Prop} [Decidable p] {f g : Fsm} (hf : f.isRx = true) (hg : g.isRx = true) :
    (if p then f else g).isRx = true := by
  split
  · exact hf
  · exact hg

theorem rxApply_effect {b : Byte} {s t : State} (h : rxApply b s = .next t) : RxEffect b s t := by
  cases hf : s.fsm
  case idle | sending => simp only [rxApply, hf] at h; cases h; exact .ignored
  all_goals have hrx : s.fsm.isRx = true := by rw [hf]; rfl
  case gotM =>
    cases (rxApply_gotM b hf).symm.trans h
    split
    · exact .decodes hrx rfl (by simp [NoPayloadYet])
    · split
      · exact .fails hrx (.inl rfl)
      · exact .decodes hrx rfl (by simp [NoPayloadYet])
  case gotX =>
    cases (rxApply_gotX b hf).symm.trans h
    split
    · exact .decodes hrx rfl (by simp [NoPayloadYet])
    · exact .decodes hrx rfl (by simp [NoPayloadYet])
  all_goals simp only [rxApply, hf] at h
  case v1Check =>
    cases h
    unfold rxV1Check
    split
    · exact .publishesV1 hf
    · exact .fails hrx (.inr (.inl rfl))
  case v2Crc =>
    cases h
    unfold rxV2Crc
    split
    · exact .publishesV2 hf
    · exact .fails hrx (.inr (.inr rfl))
  case v1Payload =>
    unfold rxV1Payload at h
    split at h
    · next hidx => cases h; exact .stores (.inl hf) (isRx_ite rfl rfl) hidx
    · cases h
  case v2Payload =>
    unfold rxV2Payload at h
    split at h
    · next hidx => cases h; exact .stores (.inr hf) (isRx_ite rfl rfl) hidx
    · cases h
  case scan =>
    cases h
    exact .decodes hrx (isRx_ite rfl rfl) (noPayloadYet_ite (by simp [NoPayloadYet]) (by simp [NoPayloadYet]))
  case gotDollar =>
    cases h
    exact .decodes hrx (isRx_ite rfl (isRx_ite rfl rfl)) (noPayloadYet_ite (by simp [NoPayloadYet])
      (noPayloadYet_ite (by simp [NoPayloadYet]) (by simp [NoPayloadYet])))
  case v1Code | v2SizeHi =>
    cases h
    exact .decodes hrx (isRx_ite rfl rfl)
      (noPayloadYet_ite (fun hlen => by simp [NoPayloadYet, hlen]) (by simp [NoPayloadYet]))
  case hdrSkip | v1Size | v2Flag | v2CodeLo | v2CodeHi | v2SizeLo =>
    cases h
    exact .decodes hrx rfl (by simp [NoPayloadYet])

/-! ## What the other events can do -/

/-- A SEND finishes, a TRANSACT or NEGOTIATE starts its receive phase; otherwise the frame is on the wire and nothing
else happens (R128). -/
theorem txAcceptEvent_cases (s : State) :
    (∃ r, (r = .sentV1 ∨ r = .sentV2) ∧ txAcceptEvent s = finish r { s with wireTx := s.wireTx ++ [s.txFrame] }) ∨
      ((s.op = .transact ∨ s.op = .negotiate) ∧
        txAcceptEvent s = rxBegin { s with wireTx := s.wireTx ++ [s.txFrame] }) ∨
      ((s.op = .none ∨ s.op = .receive) ∧ txAcceptEvent s = { s with wireTx := s.wireTx ++ [s.txFrame] }) := by
  unfold txAcceptEvent
  split
  · exact .inl ⟨_, by split <;> simp, rfl⟩
  · next hop => exact .inr (.inl ⟨.inl hop, rfl⟩)
  · next hop => exact .inr (.inl ⟨.inr hop, rfl⟩)
  · next hop => exact .inr (.inr ⟨.inl hop, rfl⟩)
  · next hop => exact .inr (.inr ⟨.inr hop, rfl⟩)

/-- The receive phase times out, or at most TIMER changes (R166). -/
theorem tickEvent_cases (s : State) :
    (s.fsm.isRx = true ∧ tickEvent s = finish .timeout { s with timer := 0 }) ∨
      ∃ v, tickEvent s = { s with timer := v } := by
  unfold tickEvent
  split
  · next hrx =>
    split
    · exact .inl ⟨hrx, rfl⟩
    · exact .inr ⟨_, rfl⟩
  · exact .inr ⟨s.timer, rfl⟩

/-- The byte is kept where there is room, else RX_OVERRUN is set (R62). -/
theorem rxByteEvent_cases (b : Byte) (s : State) :
    (s.rxfifo.length < Config.rxFifoDepth ∧ rxByteEvent b s = { s with rxfifo := s.rxfifo ++ [b] }) ∨
      rxByteEvent b s = { s with rxOverrun := true } := by
  unfold rxByteEvent
  split
  · next hroom => exact .inl ⟨hroom, rfl⟩
  · exact .inr rfl

/-! ## The output log and the RX FIFO -/

/-- Settles O19: `step_wireTx`. -/
theorem wireGrowsByWholeFrames : Obligations.WireGrowsByWholeFrames := fun _ _ => step_wireTx

theorem startSend_rxfifo (kind : LongOp) (fam : Family) (s : State) : (startSend kind fam s).rxfifo = s.rxfifo := by
  rcases startSend_cases kind fam s with ⟨r, -, e⟩ | ⟨f, -, e⟩
  · rw [e, finish_rxfifo]
  · rw [e, latchFrame_rxfifo]

/-- Only FLUSH_RX in IDLE changes the RX FIFO: it empties it (R190). -/
theorem exec_rxfifo {i : Instr} {s t : State} (h : exec i s = .next t) :
    t.rxfifo = s.rxfifo ∨ (i = .flushRx ∧ s.fsm = .idle ∧ t.rxfifo = []) := by
  rcases exec_cases h with rfl | rfl | ⟨-, rfl⟩ | ⟨d, -, rfl⟩ | ⟨-, rfl⟩ | ⟨d, -, rfl⟩ | ⟨-, kind, fam, -, rfl⟩ |
    ⟨-, -, rfl⟩ | ⟨-, -, rfl⟩ | ⟨hs, hi, rfl⟩ | ⟨-, -, rfl | rfl | rfl | rfl⟩
  any_goals exact .inl rfl
  · exact .inl (startSend_rxfifo kind fam _)
  · exact .inr ⟨hi, hs, rfl⟩

theorem writeReg_rxfifo (r : Reg) (v : Word) (s : State) : (writeReg r v s).rxfifo = s.rxfifo := by
  cases r <;> rfl

theorem rxApply_rxfifo {b : Byte} {s t : State} (h : rxApply b s = .next t) : t.rxfifo = s.rxfifo := by
  cases rxApply_effect h <;> rfl

/-- The one word of an instruction without operands (R82). -/
theorem eq_flushRx_word {w : Word} (h : decodeCmd w = .ok .flushRx) : w = 0x00000015#32 :=
  (Option.some.inj (encodeCmd_of_decodeCmd h)).symm

theorem eq_receive_word {w : Word} (h : decodeCmd w = .ok .receive) : w = 0x00000011#32 :=
  (Option.some.inj (encodeCmd_of_decodeCmd h)).symm

theorem txAcceptEvent_rxfifo (s : State) : (txAcceptEvent s).rxfifo = s.rxfifo := by
  rcases txAcceptEvent_cases s with ⟨r, -, e⟩ | ⟨-, e⟩ | ⟨-, e⟩ <;> rw [e] <;> rfl

theorem tickEvent_rxfifo (s : State) : (tickEvent s).rxfifo = s.rxfifo := by
  rcases tickEvent_cases s with ⟨-, e⟩ | ⟨v, e⟩
  · rw [e, finish_rxfifo]
  · rw [e]

theorem rxByteEvent_rxfifo (b : Byte) (s : State) :
    (rxByteEvent b s).rxfifo = s.rxfifo ∨ (rxByteEvent b s).rxfifo = s.rxfifo ++ [b] := by
  rcases rxByteEvent_cases b s with ⟨-, e⟩ | e
  · exact .inr (by rw [e])
  · exact .inl (by rw [e])

/-- An RxStep that is enabled finds a receive state (R145). -/
theorem isRx_of_enabled {s : State} (h : enabled .rxStep s = true) : s.fsm.isRx = true :=
  ((Bool.and_eq_true _ _).mp h).1

/-- What an enabled event does to the RX FIFO. -/
theorem perform_rxfifo {e : Event} {s t : State} (hen : enabled e s = true) (h : perform e s = .next t) :
    t.rxfifo = s.rxfifo ∨ (∃ b, e = .rxByte b ∧ t.rxfifo = s.rxfifo ++ [b]) ∨
      (e = .rxStep ∧ s.fsm.isRx = true ∧ ∃ b, s.rxfifo = b :: t.rxfifo) ∨
      (e = .hostWrite cmdOffset .word 0x00000015#32 ∧ s.fsm = .idle ∧ t.rxfifo = []) ∨
      (e = .reset ∧ t.rxfifo = []) := by
  rcases perform_cases h with ⟨-, a, rfl⟩ | ⟨off, n, v, r, -, -, -, -, rfl⟩ | ⟨off, n, v, -, -, -, -, rfl⟩ |
    ⟨w, he, ⟨i, hi, hx⟩ | ⟨c, -, rfl⟩⟩ | ⟨b, he, rfl⟩ | ⟨he, ⟨-, rfl⟩ | ⟨b, q, hq, hx⟩⟩ | ⟨-, rfl⟩ | ⟨-, rfl⟩ |
    ⟨-, rfl⟩ | ⟨he, rfl⟩
  · exact .inl rfl
  · exact .inl (writeReg_rxfifo r v _)
  · exact .inl (by rw [memWrite_eq])
  · rcases exec_rxfifo hx with hkeep | ⟨rfl, hs, hempty⟩
    · exact .inl hkeep
    · cases eq_flushRx_word hi
      exact .inr (.inr (.inr (.inl ⟨he, hs, hempty⟩)))
  · exact .inl rfl
  · exact (rxByteEvent_rxfifo b s).imp id fun happend => .inl ⟨b, he, happend⟩
  · exact .inl rfl
  · subst he
    exact .inr (.inr (.inl ⟨rfl, isRx_of_enabled hen, b, hq.trans (congrArg (b :: ·) (rxApply_rxfifo hx).symm)⟩))
  · exact .inl (txAcceptEvent_rxfifo s)
  · exact .inl rfl
  · exact .inl (tickEvent_rxfifo s)
  · exact .inr (.inr (.inr (.inr ⟨he, rfl⟩)))

/-- Settles O38: an event that is not enabled keeps the RX FIFO, and `perform_rxfifo` says what the others do. -/
theorem fifoKeepsOrder : Obligations.FifoKeepsOrder := by
  intro s t h
  obtain ⟨q, n, ⟨-, rfl⟩ | ⟨hen, hp⟩⟩ := step_next h
  · exact .inl rfl
  · exact perform_rxfifo (s := { s with sched := q, envIdx := n }) hen hp

/-! ## The end of an operation (R170, R246) -/

/-- The operation is over and has left its outcome. -/
def State.Ended (t : State) : Prop := t.done = true ∧ t.result ≠ .none ∧ t.op = .none ∧ t.txFrame = []

theorem finish_ended {r : Result} (hr : r ≠ .none) (s : State) : (finish r s).Ended := ⟨rfl, hr, rfl, rfl⟩

/-- An instruction that leads from a busy state to IDLE is ABORT or the header `$M!`. -/
theorem exec_ends {i : Instr} {s t : State} (h : exec i s = .next t) (hs : s.fsm ≠ .idle) (ht : t.fsm = .idle) :
    t.Ended := by
  rcases exec_cases h with rfl | rfl | ⟨-, rfl⟩ | ⟨d, -, rfl⟩ | ⟨-, rfl⟩ | ⟨d, -, rfl⟩ | ⟨hidle, -⟩ |
    ⟨hidle, -⟩ | ⟨-, -, rfl⟩ | ⟨hidle, -⟩ | ⟨-, -, rfl | rfl | rfl | rfl⟩
  · exact absurd ht hs
  · exact absurd ht hs
  · exact absurd ht hs
  · exact absurd ht hs
  · exact absurd ht hs
  · exact absurd ht hs
  · exact absurd hidle hs
  · exact absurd hidle hs
  · exact finish_ended (by decide) s
  · exact absurd hidle hs
  · cases ht
  · cases ht
  · cases ht
  · exact finish_ended (by decide) s

theorem rxApply_ends {b : Byte} {s t : State} (h : rxApply b s = .next t) (hs : s.fsm ≠ .idle) (ht : t.fsm = .idle) :
    t.Ended := by
  cases rxApply_effect h with
  | ignored => exact absurd ht hs
  | decodes _ hf => cases ht; cases hf
  | stores _ hf => cases ht; cases hf
  | fails _ hr => exact finish_ended (by rcases hr with rfl | rfl | rfl <;> decide) s
  | publishesV1 => exact finish_ended (by decide) _
  | publishesV2 => exact finish_ended (by decide) _

theorem txAcceptEvent_ends {s : State} (hs : s.fsm ≠ .idle) (ht : (txAcceptEvent s).fsm = .idle) :
    (txAcceptEvent s).Ended := by
  rcases txAcceptEvent_cases s with ⟨r, hr, e⟩ | ⟨-, e⟩ | ⟨-, e⟩ <;> rw [e] at ht ⊢
  · exact finish_ended (by rcases hr with rfl | rfl <;> decide) _
  · cases ht
  · exact absurd ht hs

theorem tickEvent_ends {s : State} (hs : s.fsm ≠ .idle) (ht : (tickEvent s).fsm = .idle) : (tickEvent s).Ended := by
  rcases tickEvent_cases s with ⟨-, e⟩ | ⟨v, e⟩ <;> rw [e] at ht ⊢
  · exact finish_ended (by decide) _
  · exact absurd ht hs

theorem rxByteEvent_fsm (b : Byte) (s : State) : (rxByteEvent b s).fsm = s.fsm := by
  rcases rxByteEvent_cases b s with ⟨-, e⟩ | e <;> rw [e]

theorem perform_ends {e : Event} {s t : State} (h : perform e s = .next t) (he : e ≠ .reset) (hs : s.fsm ≠ .idle)
    (ht : t.fsm = .idle) : t.Ended := by
  rcases perform_cases h with ⟨-, a, rfl⟩ | ⟨off, n, v, r, -, -, -, -, rfl⟩ | ⟨off, n, v, -, -, -, -, rfl⟩ |
    ⟨w, -, ⟨i, -, hx⟩ | ⟨c, -, rfl⟩⟩ | ⟨b, -, rfl⟩ | ⟨-, ⟨-, rfl⟩ | ⟨b, q, -, hx⟩⟩ | ⟨-, rfl⟩ | ⟨-, rfl⟩ | ⟨-, rfl⟩ |
    ⟨hr, -⟩
  · exact absurd ht hs
  · exact absurd ((writeReg_fsm r v _).symm.trans ht) hs
  · exact absurd ((memWrite_fsm _ _ v _).symm.trans ht) hs
  · exact exec_ends hx hs ht
  · exact absurd ht hs
  · exact absurd ((rxByteEvent_fsm b s).symm.trans ht) hs
  · exact absurd ht hs
  · exact rxApply_ends hx hs ht
  · exact txAcceptEvent_ends hs ht
  · exact finish_ended (by decide) s
  · exact tickEvent_ends hs ht
  · exact absurd hr he

/-- Settles O41: an event that is not enabled keeps the control state, and one that leads to IDLE ends the operation by
`finish` (`perform_ends`). -/
theorem operationsEndWithAResult : Obligations.OperationsEndWithAResult := by
  intro s t hs h ht he
  obtain ⟨q, n, ⟨-, rfl⟩ | ⟨-, hp⟩⟩ := step_next h
  · exact absurd ht hs
  · exact perform_ends (s := { s with sched := q, envIdx := n }) hp he hs ht

end Sys2Proof.Machine
end

section
/-! PROOFS. What no instruction changes, and who changes the buffers, the host's registers, the accumulators and the RX
registers (10_state.md section 3, 20_memory.md section 2, 42_receive.md section 4). -/

namespace Sys2Proof.Machine

/-! ## The frame of an instruction -/

/-- From `s` to `t` the host's registers, RX_OVERRUN, the buffers and the model's own fields stay. -/
def KeepsHostSide (s t : State) : Prop :=
  t.txCode = s.txCode ∧ t.txSize = s.txSize ∧ t.timeout = s.timeout ∧ t.doneIe = s.doneIe ∧ t.cmdErrIe = s.cmdErrIe ∧
    t.ovrIe = s.ovrIe ∧ t.rxOverrun = s.rxOverrun ∧ t.mem = s.mem ∧ t.draw = s.draw ∧ t.sched = s.sched ∧
    t.envIdx = s.envIdx

theorem startSend_keepsHostSide (kind : LongOp) (fam : Family) (s : State) :
    KeepsHostSide s (startSend kind fam s) := by
  rcases startSend_cases kind fam s with ⟨r, -, e⟩ | ⟨f, -, e⟩
  · rw [e]; exact ⟨rfl, rfl, rfl, rfl, rfl, rfl, rfl, rfl, rfl, rfl, rfl⟩
  · rw [e]; exact ⟨rfl, rfl, rfl, rfl, rfl, rfl, rfl, rfl, rfl, rfl, rfl⟩

theorem exec_keepsHostSide {i : Instr} {s t : State} (h : exec i s = .next t) : KeepsHostSide s t := by
  rcases exec_cases h with rfl | rfl | ⟨-, rfl⟩ | ⟨d, -, rfl⟩ | ⟨-, rfl⟩ | ⟨d, -, rfl⟩ | ⟨-, kind, fam, -, rfl⟩ |
    ⟨-, -, rfl⟩ | ⟨-, -, rfl⟩ | ⟨-, -, rfl⟩ | ⟨-, -, rfl | rfl | rfl | rfl⟩
  any_goals exact ⟨rfl, rfl, rfl, rfl, rfl, rfl, rfl, rfl, rfl, rfl, rfl⟩
  exact startSend_keepsHostSide kind fam (opBegin s)

theorem startSend_accumulators (kind : LongOp) (fam : Family) (s : State) :
    (startSend kind fam s).crcAcc = s.crcAcc ∧ (startSend kind fam s).xorAcc = s.xorAcc := by
  rcases startSend_cases kind fam s with ⟨r, -, e⟩ | ⟨f, -, e⟩
  · rw [e]; exact ⟨rfl, rfl⟩
  · rw [e]; exact ⟨rfl, rfl⟩

/-- Each accumulator is changed by its own two commands only (R106-R109). -/
theorem exec_accumulators {i : Instr} {s t : State} (h : exec i s = .next t) :
    (t.crcAcc = s.crcAcc ∨ i = .crcClr ∨ ∃ d, i = .crcByte d) ∧
      (t.xorAcc = s.xorAcc ∨ i = .xorClr ∨ ∃ d, i = .xorByte d) := by
  rcases exec_cases h with rfl | rfl | ⟨hi, rfl⟩ | ⟨d, hi, rfl⟩ | ⟨hi, rfl⟩ | ⟨d, hi, rfl⟩ | ⟨-, kind, fam, -, rfl⟩ |
    ⟨-, -, rfl⟩ | ⟨-, -, rfl⟩ | ⟨-, -, rfl⟩ | ⟨-, -, rfl | rfl | rfl | rfl⟩
  any_goals exact ⟨.inl rfl, .inl rfl⟩
  · exact ⟨.inr (.inl hi), .inl rfl⟩
  · exact ⟨.inr (.inr ⟨d, hi⟩), .inl rfl⟩
  · exact ⟨.inl rfl, .inr (.inl hi)⟩
  · exact ⟨.inl rfl, .inr (.inr ⟨d, hi⟩)⟩
  · exact (startSend_accumulators kind fam (opBegin s)).imp .inl .inl

/-- Settles O58: `exec_keepsHostSide`, `exec_accumulators` and `exec_rxfifo`, with what was proved above of the version
flag, the output log and the answer. -/
theorem commandFrame : Obligations.CommandFrame := by
  intro i s t h
  obtain ⟨hcode, hsize, htimeout, hdone, herr, hovr, hoverrun, hmem, hdraw, hsched, hidx⟩ := exec_keepsHostSide h
  obtain ⟨hcrc, hxor⟩ := exec_accumulators h
  exact ⟨⟨hcode, hsize, htimeout, hdone, herr, hovr, hoverrun, exec_v2Supported h, exec_wireTx h, exec_bus h, hdraw,
    hsched, hidx⟩, readByte_congr hmem hdraw, hcrc, hxor, (exec_rxfifo h).imp id (·.1)⟩

/-! ## Who changes a byte of the buffers (R55, R57, R153, R160) -/

/-- From `s` to `t` the buffers stay: what was written, and the draw of the other bytes. -/
def KeepsBuffers (s t : State) : Prop := t.mem = s.mem ∧ t.draw = s.draw

theorem KeepsBuffers.refl (s : State) : KeepsBuffers s s := ⟨rfl, rfl⟩

theorem writeReg_keepsBuffers (r : Reg) (v : Word) (s : State) : KeepsBuffers s (writeReg r v s) := by
  cases r <;> exact .refl s

theorem exec_keepsBuffers {i : Instr} {s t : State} (h : exec i s = .next t) : KeepsBuffers s t := by
  obtain ⟨-, -, -, -, -, -, -, hmem, hdraw, -, -⟩ := exec_keepsHostSide h
  exact ⟨hmem, hdraw⟩

/-- A consumed byte keeps the buffers or is the payload byte stored at `RX_BUF[rx_idx]`. -/
theorem rxApply_buffers {b : Byte} {s t : State} (h : rxApply b s = .next t) :
    KeepsBuffers s t ∨ ((s.fsm = .v1Payload ∨ s.fsm = .v2Payload) ∧ s.rxIdx.toNat < bufLen ∧
      t.mem = s.mem.put (rxBase + s.rxIdx.toNat) b ∧ t.draw = s.draw) := by
  cases rxApply_effect h with
  | stores hs _ hidx => exact .inr ⟨hs, hidx, rfl, rfl⟩
  | ignored => exact .inl (.refl s)
  | decodes | fails | publishesV1 | publishesV2 => exact .inl ⟨rfl, rfl⟩

theorem txAcceptEvent_keepsBuffers (s : State) : KeepsBuffers s (txAcceptEvent s) := by
  rcases txAcceptEvent_cases s with ⟨r, -, e⟩ | ⟨-, e⟩ | ⟨-, e⟩ <;> rw [e] <;> exact ⟨rfl, rfl⟩

theorem tickEvent_keepsBuffers (s : State) : KeepsBuffers s (tickEvent s) := by
  rcases tickEvent_cases s with ⟨-, e⟩ | ⟨v, e⟩ <;> rw [e] <;> exact ⟨rfl, rfl⟩

theorem rxByteEvent_keepsBuffers (b : Byte) (s : State) : KeepsBuffers s (rxByteEvent b s) := by
  rcases rxByteEvent_cases b s with ⟨-, e⟩ | e <;> rw [e] <;> exact ⟨rfl, rfl⟩

/-- An event keeps the buffers, or is a write of TX_BUF outside SENDING, an RxStep that stores a payload byte, or
reset. -/
theorem perform_buffers {e : Event} {s t : State} (h : perform e s = .next t) :
    KeepsBuffers s t ∨
      (∃ off n v, e = .hostWrite off n v ∧ txBase ≤ off.toNat ∧ off.toNat + n.bytes ≤ txBase + bufLen ∧
        s.fsm ≠ .sending ∧ t = memWrite { s with bus := some .writeOkay } off.toNat v n.bytes) ∨
      (e = .rxStep ∧ (s.fsm = .v1Payload ∨ s.fsm = .v2Payload) ∧ s.rxIdx.toNat < bufLen ∧
        ∃ b, t.mem = s.mem.put (rxBase + s.rxIdx.toNat) b ∧ t.draw = s.draw) ∨
      e = .reset := by
  rcases perform_cases h with ⟨-, a, rfl⟩ | ⟨off, n, v, r, -, -, -, -, rfl⟩ | ⟨off, n, v, hwrite⟩ |
    ⟨w, -, ⟨i, -, hx⟩ | ⟨c, -, rfl⟩⟩ | ⟨b, -, rfl⟩ | ⟨he, ⟨-, rfl⟩ | ⟨b, q, -, hx⟩⟩ | ⟨-, rfl⟩ | ⟨-, rfl⟩ | ⟨-, rfl⟩ |
    ⟨he, -⟩
  · exact .inl ⟨rfl, rfl⟩
  · exact .inl (writeReg_keepsBuffers r v { s with bus := some .writeOkay })
  · exact .inr (.inl ⟨off, n, v, hwrite⟩)
  · exact .inl (exec_keepsBuffers (s := { s with bus := some .writeOkay }) hx)
  · exact .inl ⟨rfl, rfl⟩
  · exact .inl (rxByteEvent_keepsBuffers b s)
  · exact .inl (.refl _)
  · exact (rxApply_buffers hx).imp id fun ⟨hs, hidx, hmem, hdraw⟩ => .inr (.inl ⟨he, hs, hidx, b, hmem, hdraw⟩)
  · exact .inl (txAcceptEvent_keepsBuffers s)
  · exact .inl ⟨rfl, rfl⟩
  · exact .inl (tickEvent_keepsBuffers s)
  · exact .inr (.inr (.inr he))

/-- Settles O59: `perform_buffers`, and outside the bytes it writes a write leaves every byte. -/
theorem bufferWriters : Obligations.BufferWriters := by
  intro s t a h ha
  obtain ⟨q, k, ⟨-, rfl⟩ | ⟨-, hp⟩⟩ := step_next h
  · exact absurd rfl ha
  rcases perform_buffers hp with ⟨hmem, hdraw⟩ | ⟨off, n, v, he, hlo, hhi, hs, rfl⟩ |
    ⟨he, hs, hidx, b, hmem, hdraw⟩ | he
  · exact absurd (readByte_congr hmem hdraw a) ha
  · have hin : off.toNat ≤ a ∧ a < off.toNat + n.bytes := by
      by_contra hout
      exact ha (readByte_memWrite_outside _ _ v _ a (by omega))
    simp only [txBase, bufLen] at hlo hhi
    exact .inl ⟨off, n, v, he, hs, hin.1, hin.2, by omega, by omega⟩
  · have hat : a = rxBase + s.rxIdx.toNat := by
      by_contra hne
      exact ha (by rw [readByte, readByte, hmem, hdraw, Memory.get?_put_other _ _ hne])
    simp only [rxBase, bufLen] at hat hidx
    exact .inr (.inl ⟨he, hs, hat, by omega⟩)
  · exact .inr (.inr he)

/-! ## Who changes the host's registers, the accumulators and the RX registers (R29, R36-R41, R49) -/

/-- From `s` to `t` the host's registers and the accumulators stay. -/
def KeepsHostRegs (s t : State) : Prop :=
  t.txCode = s.txCode ∧ t.txSize = s.txSize ∧ t.timeout = s.timeout ∧ t.doneIe = s.doneIe ∧
    t.cmdErrIe = s.cmdErrIe ∧ t.ovrIe = s.ovrIe ∧ t.crcAcc = s.crcAcc ∧ t.xorAcc = s.xorAcc

theorem KeepsHostRegs.refl (s : State) : KeepsHostRegs s s := ⟨rfl, rfl, rfl, rfl, rfl, rfl, rfl, rfl⟩

theorem rxApply_keepsHostRegs {b : Byte} {s t : State} (h : rxApply b s = .next t) : KeepsHostRegs s t := by
  cases rxApply_effect h <;> exact .refl s

theorem txAcceptEvent_keepsHostRegs (s : State) : KeepsHostRegs s (txAcceptEvent s) := by
  rcases txAcceptEvent_cases s with ⟨r, -, e⟩ | ⟨-, e⟩ | ⟨-, e⟩ <;> rw [e] <;> exact .refl s

theorem tickEvent_keepsHostRegs (s : State) : KeepsHostRegs s (tickEvent s) := by
  rcases tickEvent_cases s with ⟨-, e⟩ | ⟨v, e⟩ <;> rw [e] <;> exact .refl s

theorem rxByteEvent_keepsHostRegs (b : Byte) (s : State) : KeepsHostRegs s (rxByteEvent b s) := by
  rcases rxByteEvent_cases b s with ⟨-, e⟩ | e <;> rw [e] <;> exact .refl s

/-- Only a host write and reset change the host's registers and the accumulators. -/
theorem perform_keepsHostRegs {e : Event} {s t : State} (h : perform e s = .next t) (he : e ≠ .reset)
    (hw : ∀ off n v, e ≠ .hostWrite off n v) : KeepsHostRegs s t := by
  rcases perform_cases h with ⟨-, a, rfl⟩ | ⟨off, n, v, r, hwrite, -⟩ | ⟨off, n, v, hwrite, -⟩ | ⟨w, hwrite, -⟩ |
    ⟨b, -, rfl⟩ | ⟨-, ⟨-, rfl⟩ | ⟨b, q, -, hx⟩⟩ | ⟨-, rfl⟩ | ⟨-, rfl⟩ | ⟨-, rfl⟩ | ⟨hr, -⟩
  · exact .refl s
  · exact absurd hwrite (hw off n v)
  · exact absurd hwrite (hw off n v)
  · exact absurd hwrite (hw cmdOffset .word w)
  · exact rxByteEvent_keepsHostRegs b s
  · exact .refl _
  · exact rxApply_keepsHostRegs (s := { s with rxfifo := q }) hx
  · exact txAcceptEvent_keepsHostRegs s
  · exact .refl s
  · exact tickEvent_keepsHostRegs s
  · exact absurd hr he

/-- From `s` to `t` the RX registers stay. -/
def KeepsRxRegs (s t : State) : Prop :=
  t.rxCode = s.rxCode ∧ t.rxSize = s.rxSize ∧ t.rxFlag = s.rxFlag ∧ t.rxIsV2 = s.rxIsV2 ∧ t.rxValid = s.rxValid

theorem KeepsRxRegs.refl (s : State) : KeepsRxRegs s s := ⟨rfl, rfl, rfl, rfl, rfl⟩

/-- A receive phase has begun and the RX registers are cleared (R141). -/
def State.RxCleared (t : State) : Prop :=
  t.fsm = .scan ∧ t.rxValid = false ∧ t.rxCode = 0 ∧ t.rxSize = 0 ∧ rxInfoWord t = 0#32

theorem rxBegin_cleared (s : State) : (rxBegin s).RxCleared := ⟨rfl, rfl, rfl, rfl, rxInfoWord_of_v1 rfl rfl⟩

/-- The integrity byte in `s` published the decoded frame (R171). -/
def PublishesRx (s t : State) : Prop :=
  (s.fsm = .v1Check ∨ s.fsm = .v2Crc) ∧ t.fsm = .idle ∧ t.rxValid = true ∧ t.rxCode = s.rxCodeSh ∧ t.rxSize = s.rxLen ∧
    t.rxIsV2 = decide (s.fsm = .v2Crc) ∧ t.rxFlag = if s.fsm = .v2Crc then s.rxFlagSh else 0

theorem startSend_keepsRxRegs (kind : LongOp) (fam : Family) (s : State) : KeepsRxRegs s (startSend kind fam s) := by
  rcases startSend_cases kind fam s with ⟨r, -, e⟩ | ⟨f, -, e⟩ <;> rw [e] <;> exact .refl s

theorem exec_rxRegs {i : Instr} {s t : State} (h : exec i s = .next t) :
    KeepsRxRegs s t ∨ (i = .receive ∧ s.fsm = .idle ∧ t.RxCleared) := by
  rcases exec_cases h with rfl | rfl | ⟨-, rfl⟩ | ⟨d, -, rfl⟩ | ⟨-, rfl⟩ | ⟨d, -, rfl⟩ | ⟨-, kind, fam, -, rfl⟩ |
    ⟨hs, hi, rfl⟩ | ⟨-, -, rfl⟩ | ⟨-, -, rfl⟩ | ⟨-, -, rfl | rfl | rfl | rfl⟩
  any_goals exact .inl ⟨rfl, rfl, rfl, rfl, rfl⟩
  · exact .inl (startSend_keepsRxRegs kind fam (opBegin s))
  · exact .inr ⟨hi, hs, rxBegin_cleared _⟩

theorem rxApply_rxRegs {b : Byte} {s t : State} (h : rxApply b s = .next t) : KeepsRxRegs s t ∨ PublishesRx s t := by
  cases rxApply_effect h with
  | ignored => exact .inl (.refl s)
  | decodes | stores | fails => exact .inl ⟨rfl, rfl, rfl, rfl, rfl⟩
  | publishesV1 hs => exact .inr ⟨.inl hs, rfl, rfl, rfl, rfl, by rw [hs]; rfl, by rw [hs]; rfl⟩
  | publishesV2 hs => exact .inr ⟨.inr hs, rfl, rfl, rfl, rfl, by rw [hs]; rfl, by rw [hs]; rfl⟩

theorem writeReg_keepsRxRegs (r : Reg) (v : Word) (s : State) : KeepsRxRegs s (writeReg r v s) := by
  cases r <;> exact .refl s

theorem tickEvent_keepsRxRegs (s : State) : KeepsRxRegs s (tickEvent s) := by
  rcases tickEvent_cases s with ⟨-, e⟩ | ⟨v, e⟩ <;> rw [e] <;> exact .refl s

theorem rxByteEvent_keepsRxRegs (b : Byte) (s : State) : KeepsRxRegs s (rxByteEvent b s) := by
  rcases rxByteEvent_cases b s with ⟨-, e⟩ | e <;> rw [e] <;> exact .refl s

theorem txAcceptEvent_rxRegs (s : State) : KeepsRxRegs s (txAcceptEvent s) ∨ (txAcceptEvent s).RxCleared := by
  rcases txAcceptEvent_cases s with ⟨r, -, e⟩ | ⟨-, e⟩ | ⟨-, e⟩ <;> rw [e]
  · exact .inl (.refl s)
  · exact .inr (rxBegin_cleared _)
  · exact .inl (.refl s)

/-- What an enabled event but reset does to the RX registers: a receive phase clears them, an integrity byte sets
them. -/
theorem perform_rxRegs {e : Event} {s t : State} (hen : enabled e s = true) (h : perform e s = .next t)
    (he : e ≠ .reset) :
    KeepsRxRegs s t ∨
      ((e = .hostWrite cmdOffset .word 0x00000011#32 ∧ s.fsm = .idle ∨ e = .txAccept ∧ s.fsm = .sending) ∧
        t.RxCleared) ∨
      (e = .rxStep ∧ PublishesRx s t) := by
  rcases perform_cases h with ⟨-, a, rfl⟩ | ⟨off, n, v, r, -, -, -, -, rfl⟩ | ⟨off, n, v, -, -, -, -, rfl⟩ |
    ⟨w, hw, ⟨i, hi, hx⟩ | ⟨c, -, rfl⟩⟩ | ⟨b, -, rfl⟩ | ⟨hstep, ⟨-, rfl⟩ | ⟨b, q, -, hx⟩⟩ | ⟨hacc, rfl⟩ | ⟨-, rfl⟩ |
    ⟨-, rfl⟩ | ⟨hr, -⟩
  · exact .inl (.refl s)
  · exact .inl (writeReg_keepsRxRegs r v { s with bus := some .writeOkay })
  · exact .inl (by rw [memWrite_eq]; exact .refl s)
  · rcases exec_rxRegs hx with hkeep | ⟨rfl, hs, hclear⟩
    · exact .inl hkeep
    · cases eq_receive_word hi
      exact .inr (.inl ⟨.inl ⟨hw, hs⟩, hclear⟩)
  · exact .inl (.refl s)
  · exact .inl (rxByteEvent_keepsRxRegs b s)
  · exact .inl (.refl _)
  · exact (rxApply_rxRegs (s := { s with rxfifo := q }) hx).imp id fun hpub => .inr ⟨hstep, hpub⟩
  · subst hacc
    exact (txAcceptEvent_rxRegs s).imp id fun hclear => .inl ⟨.inr ⟨rfl, (enabled_txAccept_iff s).mp hen⟩, hclear⟩
  · exact .inl (.refl s)
  · exact .inl (tickEvent_keepsRxRegs s)
  · exact absurd hr he

/-- Settles O60: an event that is not enabled keeps every register, and `perform_keepsHostRegs` and `perform_rxRegs` say
what the others do. -/
theorem registerWriters : Obligations.RegisterWriters := by
  intro s t h he
  obtain ⟨q, n, ⟨-, rfl⟩ | ⟨hen, hp⟩⟩ := step_next h
  · exact ⟨fun _ => KeepsHostRegs.refl s, .inl (KeepsRxRegs.refl s)⟩
  · exact ⟨perform_keepsHostRegs (s := { s with sched := q, envIdx := n }) hp he,
      perform_rxRegs (s := { s with sched := q, envIdx := n }) hen hp he⟩

end Sys2Proof.Machine
end

section
/-! PROOFS. The engine's invariant (10_state.md section 3): the reset state meets it, every step keeps it, and from
every state that meets it a step completes (60_exceptions.md section 3). -/

namespace Sys2Proof.Machine

/-! ## The engine's invariant -/

/-- The part of the invariant that does not speak of the control state: the end of an operation rests on it alone. -/
structure State.DataInv (s : State) : Prop where
  memWf : s.mem.wf
  fifoBound : s.rxfifo.length ≤ Config.rxFifoDepth
  rxHidden : s.rxValid = false → s.rxCode = 0 ∧ s.rxSize = 0 ∧ s.rxFlag = 0 ∧ s.rxIsV2 = false
  v1Flag : s.rxIsV2 = false → s.rxFlag = 0
  errCause : s.cmdErr = true → s.errCause ≠ .none

theorem State.Inv.data {s : State} (h : s.Inv) : s.DataInv := { h with }

/-- In IDLE with no operation and no frame the data decide the invariant. -/
theorem State.DataInv.inv_of_idle {s : State} (h : s.DataInv) (hs : s.fsm = .idle) (hop : s.op = .none)
    (hf : s.txFrame = []) : s.Inv := by
  have hrx : s.fsm.isRx ≠ true := by rw [hs]; decide
  exact { h with
    opIdle := by simp [hs, hop]
    opSending := by simp [hs]
    opReceiving := fun h => absurd h hrx
    idxBound := by simp [hs]
    v1Len := by simp [hs]
    running := by simp [hs]
    frameIdle := by simp [hf]
    frameLen := by simp [hf]
    rxPhase := fun h => absurd h hrx }

theorem reset_data : State.reset.DataInv where
  memWf := reset_mem_wf
  fifoBound := Nat.zero_le _
  rxHidden := fun _ => ⟨rfl, rfl, rfl, rfl⟩
  v1Flag := fun _ => rfl
  errCause := nofun

/-- Settles O55: the reset state is IDLE, where only the data count. -/
theorem resetMeetsInvariants : Obligations.ResetMeetsInvariants :=
  ⟨reset_data.inv_of_idle rfl rfl rfl, nofun, trivial⟩

theorem resetEvent_inv (s : State) : (resetEvent s).Inv :=
  State.DataInv.inv_of_idle { reset_data with } rfl rfl rfl

/-- An operation that ends leaves the invariant, whatever its result (R170). -/
theorem finish_inv {s : State} (h : s.DataInv) (r : Result) : (finish r s).Inv :=
  State.DataInv.inv_of_idle { h with } rfl rfl rfl

theorem commit_data {s : State} (h : s.DataInv) (fam : Family) : (commit fam s).DataInv :=
  { h with
    rxHidden := nofun
    v1Flag := by cases fam <;> simp }

/-- A receive phase that begins for a running operation meets the invariant (R141). -/
theorem rxBegin_inv {s : State} (h : s.DataInv) (hop : s.op ≠ .none) (hsend : s.op ≠ .send) (hdone : s.done = false)
    (hres : s.result = .none) (hlen : s.txFrame.length ≤ 65544) : (rxBegin s).Inv :=
  { h with
    opIdle := by simp [hop]
    opSending := by simp
    opReceiving := fun _ => hsend
    idxBound := by simp
    v1Len := by simp
    running := fun _ => ⟨hdone, hres⟩
    frameIdle := by simp
    frameLen := hlen
    rxHidden := by simp
    v1Flag := by simp
    rxPhase := by simp }

/-- A sending operation finishes at once or runs in SENDING with the frame `build` gave (R127). -/
theorem startSend_inv {s : State} (h : s.Inv) {kind : LongOp}
    (hkind : kind = .send ∨ kind = .transact ∨ kind = .negotiate) (fam : Family) (hdone : s.done = false)
    (hres : s.result = .none) : (startSend kind fam s).Inv := by
  rcases startSend_cases kind fam s with ⟨r, -, e⟩ | ⟨f, hf, e⟩ <;> rw [e]
  · exact finish_inv h.data r
  · have hlen : f.length ≤ 65544 := by
      rcases build_cases fam s with ⟨r, hr, -⟩ | ⟨g, hg, -, hlen, -⟩
      · cases hf.symm.trans hr
      · cases hf.symm.trans hg; exact hlen
    exact { h with
      opIdle := by rcases hkind with rfl | rfl | rfl <;> simp
      opSending := fun _ => by rcases hkind with rfl | rfl | rfl <;> simp
      opReceiving := nofun
      idxBound := by simp
      v1Len := by simp
      running := fun _ => ⟨hdone, hres⟩
      frameIdle := nofun
      frameLen := hlen
      rxPhase := nofun }

/-! ### A consumed byte -/

/-- The decode may move on in a receive state while the payload to come is in range (R164). -/
theorem State.Inv.decode {s : State} (h : s.Inv) (hs : s.fsm.isRx = true) {f : Fsm} (hf : f.isRx = true)
    {acc flag : Byte} {len code : BitVec 16} {idx : BitVec 17} {m : Memory} (hm : m.wf)
    (hidx : f = .v1Payload ∨ f = .v2Payload → idx.toNat < len.toNat)
    (hv1 : f = .v1Code ∨ f = .v1Payload ∨ f = .v1Check → len.toNat ≤ 255) :
    State.Inv { s with
      fsm := f, acc := acc, rxLen := len, rxCodeSh := code, rxFlagSh := flag, rxIdx := idx, mem := m } := by
  obtain ⟨hidle, hsend⟩ := (Fsm.isRx_iff _).mp hs
  obtain ⟨fidle, fsend⟩ := (Fsm.isRx_iff _).mp hf
  exact { h with
    opIdle := by simp [h.opIdle, hidle, fidle]
    opSending := fun h => absurd h fsend
    opReceiving := fun _ => h.opReceiving hs
    memWf := hm
    idxBound := hidx
    v1Len := hv1
    running := fun _ => h.running hidle
    frameIdle := fun h => absurd h fidle
    rxPhase := fun _ => h.rxPhase hs }

/-- Under the invariant a payload byte to come has its place in RX_BUF (R164). -/
theorem State.Inv.rxIdx_lt_bufLen {s : State} (h : s.Inv) (hs : s.fsm = .v1Payload ∨ s.fsm = .v2Payload) :
    s.rxIdx.toNat < bufLen := by
  have hlt := h.idxBound hs
  have := s.rxLen.isLt
  unfold bufLen
  omega

theorem pos_of_rxLen_ne_zero {len : BitVec 16} (h : ¬len = 0) : (0 : BitVec 17).toNat < len.toNat :=
  Nat.lt_of_le_of_ne (Nat.zero_le _) fun e => h ((rxLen_eq_zero_iff len).mpr e)

theorem storePayload_inv {s : State} (h : s.Inv) {done : Fsm}
    (hs : (s.fsm = .v1Payload ∧ done = .v1Check) ∨ (s.fsm = .v2Payload ∧ done = .v2Crc)) (b acc : Byte) :
    State.Inv { storePayload b s with
      acc := acc, fsm := if (s.rxIdx + 1).toNat = s.rxLen.toNat then done else s.fsm } := by
  have hpay : s.fsm = .v1Payload ∨ s.fsm = .v2Payload := hs.imp And.left And.left
  have hin := h.rxIdx_lt_bufLen hpay
  have hrx : s.fsm.isRx = true := by rcases hpay with e | e <;> rw [e] <;> rfl
  have hdone : done.isRx = true ∧ done ≠ .v1Payload ∧ done ≠ .v2Payload := by
    rcases hs with ⟨-, rfl⟩ | ⟨-, rfl⟩ <;> decide
  refine h.decode hrx (isRx_ite hdone.1 hrx) (storePayload_wf b s h.memWf hin) ?_ ?_
  · have hlt := h.idxBound hpay
    split
    · simp [hdone]
    · next hmore =>
      intro _
      rw [rxIdx_succ_toNat hin] at hmore
      simp only [storePayload_rxIdx, storePayload_rxLen, rxIdx_succ_toNat hin]
      omega
  · rcases hs with ⟨e, rfl⟩ | ⟨e, rfl⟩
    · exact fun _ => h.v1Len (.inr (.inl e))
    · rw [e]; split <;> simp

theorem rxApply_inv {b : Byte} {s t : State} (h : s.Inv) (hb : rxApply b s = .next t) : t.Inv := by
  cases hf : s.fsm
  case idle | sending => simp only [rxApply, hf] at hb; cases hb; exact h
  all_goals have hrx : s.fsm.isRx = true := by rw [hf]; rfl
  case gotM =>
    cases (rxApply_gotM b hf).symm.trans hb
    split
    · exact h.decode hrx rfl h.memWf (by simp) (by simp)
    · split
      · exact finish_inv h.data .rejected
      · exact h.decode hrx rfl h.memWf (by simp) (by simp)
  case gotX =>
    cases (rxApply_gotX b hf).symm.trans hb
    split
    · exact h.decode hrx rfl h.memWf (by simp) (by simp)
    · exact h.decode hrx rfl h.memWf (by simp) (by simp)
  case v1Payload =>
    cases (rxApply_v1Payload b hf (h.rxIdx_lt_bufLen (.inl hf))).symm.trans hb
    rw [← hf]
    exact storePayload_inv h (.inl ⟨hf, rfl⟩) b _
  case v2Payload =>
    cases (rxApply_v2Payload b hf (h.rxIdx_lt_bufLen (.inr hf))).symm.trans hb
    rw [← hf]
    exact storePayload_inv h (.inr ⟨hf, rfl⟩) b _
  all_goals simp only [rxApply, hf] at hb; cases hb
  case v1Check =>
    unfold rxV1Check
    split
    · exact finish_inv (commit_data h.data .v1) .rxOkV1
    · exact finish_inv h.data .checksumMismatch
  case v2Crc =>
    unfold rxV2Crc
    split
    · exact finish_inv (commit_data h.data .v2) .rxOkV2
    · exact finish_inv h.data .crcMismatch
  case scan =>
    exact h.decode hrx (isRx_ite rfl rfl) h.memWf (by split <;> simp) (by split <;> simp)
  case gotDollar =>
    exact h.decode hrx (isRx_ite rfl (isRx_ite rfl rfl)) h.memWf (by split_ifs <;> simp) (by split_ifs <;> simp)
  case hdrSkip | v2Flag | v2CodeLo | v2CodeHi | v2SizeLo =>
    exact h.decode hrx rfl h.memWf (by simp) (by simp)
  case v1Size =>
    have hlen : (b.zeroExtend 16).toNat ≤ 255 := by simp; omega
    exact h.decode hrx rfl h.memWf (by simp) fun _ => hlen
  case v1Code =>
    have hlen := h.v1Len (.inl hf)
    refine h.decode hrx (isRx_ite rfl rfl) h.memWf ?_ fun _ => hlen
    split
    · simp
    · next hne => exact fun _ => pos_of_rxLen_ne_zero hne
  case v2SizeHi =>
    refine h.decode hrx (isRx_ite rfl rfl) h.memWf ?_ (by split <;> simp)
    split
    · simp
    · next hne => exact fun _ => pos_of_rxLen_ne_zero hne

/-! ### Events -/

theorem exec_inv {i : Instr} {s t : State} (h : s.Inv) (hx : exec i s = .next t) : t.Inv := by
  rcases exec_cases hx with rfl | rfl | ⟨-, rfl⟩ | ⟨d, -, rfl⟩ | ⟨-, rfl⟩ | ⟨d, -, rfl⟩ |
    ⟨hs, kind, fam, hkind, rfl⟩ | ⟨hs, -, rfl⟩ | ⟨-, -, rfl⟩ | ⟨-, -, rfl⟩ | ⟨hs, -, ht⟩
  · exact h
  · exact { h with errCause := fun _ => by simp }
  · exact { h with }
  · exact { h with }
  · exact { h with }
  · exact { h with }
  · exact startSend_inv (s := opBegin s) { h with running := fun _ => ⟨rfl, rfl⟩ } hkind fam rfl rfl
  · exact rxBegin_inv { h with } (by simp) (by simp) rfl rfl h.frameLen
  · exact finish_inv h.data .aborted
  · exact { h with fifoBound := by simp }
  · have hrx : s.fsm.isRx = true := by rcases hs with e | e <;> rw [e] <;> rfl
    rcases ht with rfl | rfl | rfl | rfl
    · exact h.decode hrx rfl h.memWf (by simp) (by simp)
    · exact h.decode hrx rfl h.memWf (by simp) (by simp)
    · exact h.decode hrx rfl h.memWf (by simp) (by simp)
    · exact finish_inv h.data .rejected

theorem writeReg_inv {s : State} (h : s.Inv) (r : Reg) (v : Word) : (writeReg r v s).Inv := by
  cases r
  case status =>
    exact { h with
      running := fun hs => ⟨by simp [writeReg, (h.running hs).1], (h.running hs).2⟩
      errCause := fun he => h.errCause (Bool.and_eq_true_iff.mp he).1 }
  all_goals exact { h with }

/-- A write of TX_BUF keeps the canonical form and touches nothing else the invariant speaks of. -/
theorem memWrite_inv {s : State} (h : s.Inv) {a : Nat} (v : Word) {n : Nat} (hlo : txBase ≤ a)
    (hhi : a + n ≤ txBase + bufLen) : (memWrite s a v n).Inv := by
  have hwf := memWrite_wf s a v n h.memWf fun i hi => .inl ⟨by omega, by omega⟩
  rw [memWrite_eq]
  exact { h with memWf := hwf }

theorem rxByteEvent_inv {s : State} (h : s.Inv) (b : Byte) : (rxByteEvent b s).Inv := by
  rcases rxByteEvent_cases b s with ⟨hroom, e⟩ | e <;> rw [e]
  · exact { h with fifoBound := by simpa using hroom }
  · exact { h with }

/-- In SENDING the operation is a sending one and runs, so a receive phase may follow the frame (R127, R128). -/
theorem txAcceptEvent_inv {s : State} (h : s.Inv) (hs : s.fsm = .sending) : (txAcceptEvent s).Inv := by
  have hrun := h.running (by simp [hs])
  rcases txAcceptEvent_cases s with ⟨r, -, e⟩ | ⟨hop, e⟩ | ⟨-, e⟩ <;> rw [e]
  · exact finish_inv (s := { s with wireTx := s.wireTx ++ [s.txFrame] }) { h with } r
  · exact rxBegin_inv { h with } (by rcases hop with e | e <;> simp [e]) (by rcases hop with e | e <;> simp [e])
      hrun.1 hrun.2 h.frameLen
  · exact { h with }

theorem tickEvent_inv {s : State} (h : s.Inv) : (tickEvent s).Inv := by
  rcases tickEvent_cases s with ⟨-, e⟩ | ⟨v, e⟩ <;> rw [e]
  · exact finish_inv (s := { s with timer := 0 }) { h with } .timeout
  · exact { h with }

/-- The invariant holds without the oldest byte of the FIFO. -/
theorem State.Inv.tail {s : State} (h : s.Inv) {b : Byte} {q : List Byte} (hq : s.rxfifo = b :: q) :
    State.Inv { s with rxfifo := q } := by
  have hbound := h.fifoBound
  rw [hq, List.length_cons] at hbound
  exact { h with fifoBound := Nat.le_of_succ_le hbound }

theorem perform_inv {e : Event} {s t : State} (h : s.Inv) (hen : enabled e s = true) (hp : perform e s = .next t) :
    t.Inv := by
  have hbus (answer : BusAnswer) : State.Inv { s with bus := some answer } := { h with }
  rcases perform_cases hp with ⟨-, a, rfl⟩ | ⟨off, n, v, r, -, -, -, -, rfl⟩ | ⟨off, n, v, -, hlo, hhi, -, rfl⟩ |
    ⟨w, -, ⟨i, -, hx⟩ | ⟨c, hc, rfl⟩⟩ | ⟨b, -, rfl⟩ | ⟨-, ⟨-, rfl⟩ | ⟨b, q, hq, hx⟩⟩ | ⟨he, rfl⟩ | ⟨-, rfl⟩ | ⟨-, rfl⟩ |
    ⟨-, rfl⟩
  · exact hbus a
  · exact writeReg_inv (hbus .writeOkay) r v
  · exact memWrite_inv (hbus .writeOkay) v hlo hhi
  · exact exec_inv (hbus .writeOkay) hx
  · exact { h with errCause := fun _ => by rcases hc with rfl | rfl <;> simp }
  · exact rxByteEvent_inv h b
  · exact h
  · exact rxApply_inv (h.tail hq) hx
  · subst he
    exact txAcceptEvent_inv h ((enabled_txAccept_iff s).mp hen)
  · exact finish_inv h.data .transportError
  · exact tickEvent_inv h
  · exact resetEvent_inv s

/-- Settles O56: an event that is not enabled leaves all the invariant speaks of, and the others keep it
(`perform_inv`). -/
theorem stepsKeepTheInvariant : Obligations.StepsKeepTheInvariant := by
  intro s t h hstep
  obtain ⟨q, n, ⟨-, rfl⟩ | ⟨hen, hp⟩⟩ := step_next hstep
  · exact { h with }
  · exact perform_inv (s := { s with sched := q, envIdx := n }) { h with } hen hp

/-! ## From every state that meets the invariant a step completes -/

theorem rxApply_completes {s : State} (h : s.Inv) (b : Byte) : ∃ t, rxApply b s = .next t := by
  cases hf : s.fsm
  case gotM => exact ⟨_, rxApply_gotM b hf⟩
  case gotX => exact ⟨_, rxApply_gotX b hf⟩
  case v1Payload => exact ⟨_, rxApply_v1Payload b hf (h.rxIdx_lt_bufLen (.inl hf))⟩
  case v2Payload => exact ⟨_, rxApply_v2Payload b hf (h.rxIdx_lt_bufLen (.inr hf))⟩
  all_goals simp only [rxApply, hf]; exact ⟨_, rfl⟩

theorem hostWrite_completes (off : Word) (n : AccessSize) (v : Word) (s : State) :
    ∃ t, hostWrite off n v s = .next t := by
  cases hc : checkWrite s off.toNat n.bytes with
  | error c => exact ⟨_, hostWrite_of_error hc v⟩
  | ok tg =>
    obtain ⟨t, ht, -⟩ := writeTarget_completes tg n.bytes v { s with bus := some .writeOkay }
    exact ⟨t, (hostWrite_of_ok hc v).trans ht⟩

theorem perform_completes {s : State} (h : s.Inv) (e : Event) : ∃ t, perform e s = .next t := by
  cases e with
  | hostWrite off n v => exact hostWrite_completes off n v s
  | rxStep =>
    cases hq : s.rxfifo with
    | nil => exact ⟨s, by simp only [perform, rxStepEvent, hq]⟩
    | cons b q =>
      obtain ⟨t, ht⟩ := rxApply_completes (h.tail hq) b
      exact ⟨t, by simp only [perform, rxStepEvent, hq]; exact ht⟩
  | hostRead | rxByte | txAccept | txFail | tick | reset => exact ⟨_, rfl⟩

/-- Settles O57: the only stop is a payload byte outside RX_BUF, which the invariant excludes (`perform_completes`). -/
theorem invariantStatesNeverStop : Obligations.InvariantStatesNeverStop := by
  intro s h
  obtain ⟨e, q, n, ⟨-, hstep⟩ | ⟨-, hstep⟩⟩ := step_cases s
  · exact ⟨_, hstep⟩
  · obtain ⟨t, ht⟩ := perform_completes (s := { s with sched := q, envIdx := n }) { h with } e
    exact ⟨t, hstep.trans ht⟩

end Sys2Proof.Machine
end

section
/-! PROOFS. The offered frame stays the one the TX registers and TX_BUF build (20_memory.md R57,
41_transmit.md R131). -/

namespace Sys2Proof.Machine

/-- From `s` to `t` stay the control state, the frame, and all it is built from. -/
def KeepsFrame (s t : State) : Prop := KeepsOffer s t ∧ t.txV2 = s.txV2

theorem KeepsFrame.refl (s : State) : KeepsFrame s s := ⟨.refl s, rfl⟩

theorem KeepsFrame.latched {s t : State} (hk : KeepsFrame s t) (h : s.FrameLatched) : t.FrameLatched := by
  obtain ⟨⟨hfsm, hcode, hsize, hframe, hmem, hdraw⟩, hv2⟩ := hk
  intro ht
  have hbuild : build (txFamily t) t = build (txFamily t) s :=
    build_congr _ hcode hsize fun _ _ _ => readByte_congr hmem hdraw _
  rw [hbuild, hframe, txFamily, hv2]
  exact h (hfsm.symm.trans ht)

/-- Where no frame is offered there is nothing to hold. -/
theorem latched_of_not_sending {t : State} (ht : t.fsm ≠ .sending) : t.FrameLatched := fun hs => absurd hs ht

theorem startSend_latched (kind : LongOp) (fam : Family) (s : State) : (startSend kind fam s).FrameLatched := by
  rcases startSend_cases kind fam s with ⟨r, -, e⟩ | ⟨f, hf, e⟩ <;> rw [e]
  · exact latched_of_not_sending (by simp)
  · intro _
    have hfam : txFamily (latchFrame kind fam f s) = fam := by cases fam <;> rfl
    rw [hfam, latchFrame_txFrame, ← hf]
    exact build_congr fam rfl rfl fun _ _ _ => rfl

theorem exec_latched {i : Instr} {s t : State} (h : s.FrameLatched) (hx : exec i s = .next t) : t.FrameLatched := by
  rcases exec_cases hx with rfl | rfl | ⟨-, rfl⟩ | ⟨d, -, rfl⟩ | ⟨-, rfl⟩ | ⟨d, -, rfl⟩ | ⟨-, kind, fam, -, rfl⟩ |
    ⟨-, -, rfl⟩ | ⟨-, -, rfl⟩ | ⟨-, -, rfl⟩ | ⟨-, -, rfl | rfl | rfl | rfl⟩
  · exact h
  · exact (KeepsFrame.refl s).latched h
  · exact (KeepsFrame.refl s).latched h
  · exact (KeepsFrame.refl s).latched h
  · exact (KeepsFrame.refl s).latched h
  · exact (KeepsFrame.refl s).latched h
  · exact startSend_latched kind fam _
  · exact latched_of_not_sending nofun
  · exact latched_of_not_sending nofun
  · exact (KeepsFrame.refl s).latched h
  · exact latched_of_not_sending nofun
  · exact latched_of_not_sending nofun
  · exact latched_of_not_sending nofun
  · exact latched_of_not_sending nofun

theorem rxApply_latched {b : Byte} {s t : State} (h : s.FrameLatched) (hb : rxApply b s = .next t) :
    t.FrameLatched := by
  cases rxApply_effect hb with
  | ignored => exact h
  | decodes _ hf => exact latched_of_not_sending ((Fsm.isRx_iff _).mp hf).2
  | stores _ hf => exact latched_of_not_sending ((Fsm.isRx_iff _).mp hf).2
  | fails | publishesV1 | publishesV2 => exact latched_of_not_sending nofun

/-- In SENDING the registers the frame is built from are locked (R57). -/
theorem writeReg_latched {r : Reg} {s : State} (hlk : ¬(r.lockedInSending = true ∧ s.fsm = .sending)) (v : Word)
    (h : s.FrameLatched) : (writeReg r v s).FrameLatched := by
  intro ht
  have hs : s.fsm = .sending := (writeReg_fsm r v s).symm.trans ht
  have hr : r.lockedInSending = false := by simpa [hs] using hlk
  have hv2 : (writeReg r v s).txV2 = s.txV2 := by cases r <;> rfl
  exact KeepsFrame.latched ⟨writeReg_keepsOffer hr v s, hv2⟩ h ht

theorem memWrite_latched {s : State} (hs : s.fsm ≠ .sending) (a : Nat) (v : Word) (n : Nat) :
    (memWrite s a v n).FrameLatched :=
  latched_of_not_sending fun ht => hs ((memWrite_fsm s a v n).symm.trans ht)

theorem txAcceptEvent_latched {s : State} (h : s.FrameLatched) : (txAcceptEvent s).FrameLatched := by
  rcases txAcceptEvent_cases s with ⟨r, -, e⟩ | ⟨-, e⟩ | ⟨-, e⟩ <;> rw [e]
  · exact latched_of_not_sending nofun
  · exact latched_of_not_sending nofun
  · exact (KeepsFrame.refl s).latched h

theorem tickEvent_latched {s : State} (h : s.FrameLatched) : (tickEvent s).FrameLatched := by
  rcases tickEvent_cases s with ⟨-, e⟩ | ⟨v, e⟩ <;> rw [e]
  · exact latched_of_not_sending nofun
  · exact (KeepsFrame.refl s).latched h

theorem rxByteEvent_latched {s : State} (h : s.FrameLatched) (b : Byte) : (rxByteEvent b s).FrameLatched := by
  rcases rxByteEvent_cases b s with ⟨-, e⟩ | e <;> rw [e]
  · exact (KeepsFrame.refl s).latched h
  · exact (KeepsFrame.refl s).latched h

theorem perform_latched {e : Event} {s t : State} (h : s.FrameLatched) (hp : perform e s = .next t) :
    t.FrameLatched := by
  rcases perform_cases hp with ⟨-, a, rfl⟩ | ⟨off, n, v, r, -, -, -, hlk, rfl⟩ | ⟨off, n, v, -, -, -, hs, rfl⟩ |
    ⟨w, -, ⟨i, -, hx⟩ | ⟨c, -, rfl⟩⟩ | ⟨b, -, rfl⟩ | ⟨-, ⟨-, rfl⟩ | ⟨b, q, -, hx⟩⟩ | ⟨-, rfl⟩ | ⟨-, rfl⟩ | ⟨-, rfl⟩ |
    ⟨-, rfl⟩
  · exact (KeepsFrame.refl s).latched h
  · exact writeReg_latched (s := { s with bus := some .writeOkay }) hlk v ((KeepsFrame.refl s).latched h)
  · exact memWrite_latched (s := { s with bus := some .writeOkay }) hs _ v _
  · exact exec_latched (s := { s with bus := some .writeOkay }) ((KeepsFrame.refl s).latched h) hx
  · exact (KeepsFrame.refl s).latched h
  · exact rxByteEvent_latched h b
  · exact h
  · exact rxApply_latched (s := { s with rxfifo := q }) ((KeepsFrame.refl s).latched h) hx
  · exact txAcceptEvent_latched h
  · exact latched_of_not_sending nofun
  · exact tickEvent_latched h
  · exact latched_of_not_sending nofun

/-- Settles O20: an offered frame stays with all it is built from, or SENDING is entered with the frame just built
(`startSend_latched`). -/
theorem offeredFrameMatchesRegisters : Obligations.OfferedFrameMatchesRegisters := by
  intro s t h hstep
  obtain ⟨q, n, ⟨-, rfl⟩ | ⟨-, hp⟩⟩ := step_next hstep
  · exact (KeepsFrame.refl s).latched h
  · exact perform_latched (s := { s with sched := q, envIdx := n }) ((KeepsFrame.refl s).latched h) hp

end Sys2Proof.Machine
end

section
/-! PROOFS. The running integrity value: in every decode state `acc` covers the bytes of the frame consumed so far
(42_receive.md R151-R161). -/

namespace Sys2Proof.Machine

@[simp] theorem hi8_word16 (lo hi : Byte) : hi8 (word16 lo hi) = hi := by
  simp [hi8, word16, BitVec.extractLsb'_append_eq_of_le, -Nat.reduceAdd]

@[simp] theorem lo8_zeroExtend (b : Byte) : lo8 (b.zeroExtend 16) = b := by
  apply BitVec.eq_of_toNat_eq
  simp [lo8, Nat.mod_eq_of_lt b.isLt]

theorem v1Sum_append (len code : BitVec 16) (p : List Byte) (b : Byte) :
    v1Sum len code (p ++ [b]) = v1Sum len code p ^^^ b := by
  rw [v1Sum, v1Sum, foldXor, List.foldl_append, BitVec.xor_assoc _ _ b]
  rfl

theorem v2Sum_append (flag : Byte) (code len : BitVec 16) (p : List Byte) (b : Byte) :
    v2Sum flag code len (p ++ [b]) = crc8Step (v2Sum flag code len p) b := by
  rw [v2Sum, v2Sum, crc8, ← List.append_assoc, List.foldl_append]
  rfl

/-- A stored byte is the next of the payload. -/
theorem rxPayload_storePayload (b : Byte) (s : State) :
    rxPayload (storePayload b s) (s.rxIdx.toNat + 1) = rxPayload s s.rxIdx.toNat ++ [b] := by
  have hold : bufBytes (storePayload b s) rxBase s.rxIdx.toNat = bufBytes s rxBase s.rxIdx.toNat :=
    bufBytes_congr fun i hi => readByte_storePayload_other b s (by omega)
  rw [rxPayload, bufBytes_succ, hold, readByte_storePayload_same]
  rfl

/-- With no payload yet the integrity value is that of the fields. -/
theorem v1Sum_nil (len code : BitVec 16) : v1Sum len code [] = lo8 len ^^^ lo8 code := by
  rw [v1Sum, foldXor, List.foldl_nil, BitVec.xor_zero]

/-- From `s` to `t` stay the control state, the decoder's shadows and RX_BUF. -/
def KeepsDecode (s t : State) : Prop :=
  t.fsm = s.fsm ∧ t.acc = s.acc ∧ t.rxLen = s.rxLen ∧ t.rxCodeSh = s.rxCodeSh ∧ t.rxFlagSh = s.rxFlagSh ∧
    t.rxIdx = s.rxIdx ∧ ∀ o, readByte t (rxBase + o) = readByte s (rxBase + o)

theorem KeepsDecode.refl (s : State) : KeepsDecode s s := ⟨rfl, rfl, rfl, rfl, rfl, rfl, fun _ => rfl⟩

theorem KeepsDecode.tracks {s t : State} (hk : KeepsDecode s t) (h : s.AccTracks) : t.AccTracks := by
  obtain ⟨hfsm, hacc, hlen, hcode, hflag, hidx, hbytes⟩ := hk
  have hpay (n : Nat) : rxPayload t n = rxPayload s n := bufBytes_congr fun i _ => hbytes i
  simpa only [State.AccTracks, hfsm, hacc, hlen, hcode, hflag, hidx, hpay] using h

theorem startSend_tracks (kind : LongOp) (fam : Family) (s : State) : (startSend kind fam s).AccTracks := by
  rcases startSend_cases kind fam s with ⟨r, -, e⟩ | ⟨f, -, e⟩ <;> rw [e] <;> trivial

theorem exec_tracks {i : Instr} {s t : State} (h : s.AccTracks) (hx : exec i s = .next t) : t.AccTracks := by
  rcases exec_cases hx with rfl | rfl | ⟨-, rfl⟩ | ⟨d, -, rfl⟩ | ⟨-, rfl⟩ | ⟨d, -, rfl⟩ | ⟨-, kind, fam, -, rfl⟩ |
    ⟨-, -, rfl⟩ | ⟨-, -, rfl⟩ | ⟨-, -, rfl⟩ | ⟨-, -, rfl | rfl | rfl | rfl⟩
  · exact h
  · exact (KeepsDecode.refl s).tracks h
  · exact (KeepsDecode.refl s).tracks h
  · exact (KeepsDecode.refl s).tracks h
  · exact (KeepsDecode.refl s).tracks h
  · exact (KeepsDecode.refl s).tracks h
  · exact startSend_tracks kind fam _
  · trivial
  · trivial
  · exact (KeepsDecode.refl s).tracks h
  · trivial
  · exact rfl
  · exact rfl
  · trivial

/-- Behind the fields of a V1 frame `acc` is the sum over them and the payload stored so far. -/
theorem accTracks_of_v1 {s : State} (hf : s.fsm = if s.rxIdx.toNat = s.rxLen.toNat then .v1Check else .v1Payload)
    (hacc : s.acc = v1Sum s.rxLen s.rxCodeSh (rxPayload s s.rxIdx.toNat)) : s.AccTracks := by
  split at hf
  · next hend => simpa only [State.AccTracks, hf, ← hend] using hacc
  · simpa only [State.AccTracks, hf] using hacc

/-- Behind the fields of a V2 frame `acc` is the CRC over them and the payload stored so far. -/
theorem accTracks_of_v2 {s : State} (hf : s.fsm = if s.rxIdx.toNat = s.rxLen.toNat then .v2Crc else .v2Payload)
    (hacc : s.acc = v2Sum s.rxFlagSh s.rxCodeSh s.rxLen (rxPayload s s.rxIdx.toNat)) : s.AccTracks := by
  split at hf
  · next hend => simpa only [State.AccTracks, hf, ← hend] using hacc
  · simpa only [State.AccTracks, hf] using hacc

theorem rxV1Code_tracks {s : State} (b : Byte) (h : s.acc = lo8 s.rxLen) : (rxV1Code b s).AccTracks := by
  refine accTracks_of_v1 ?_ ?_
  · simp only [rxV1Code, rxLen_eq_zero_iff]
    rfl
  · show s.acc ^^^ b = v1Sum s.rxLen (b.zeroExtend 16) []
    rw [v1Sum_nil, lo8_zeroExtend, h]

theorem rxV2SizeHi_tracks {s : State} (b : Byte)
    (h : s.acc = crc8 [s.rxFlagSh, lo8 s.rxCodeSh, hi8 s.rxCodeSh, lo8 s.rxLen]) : (rxV2SizeHi b s).AccTracks := by
  refine accTracks_of_v2 ?_ ?_
  · simp only [rxV2SizeHi, rxLen_eq_zero_iff]
    rfl
  · show crc8Step s.acc b = v2Sum s.rxFlagSh s.rxCodeSh (word16 (lo8 s.rxLen) b) []
    rw [v2Sum, lo8_word16, hi8_word16, h]
    rfl

/-- Each consumed byte is folded into `acc` as the next of the bytes the sum is over. -/
theorem rxApply_tracks {b : Byte} {s t : State} (hinv : s.Inv) (h : s.AccTracks) (hb : rxApply b s = .next t) :
    t.AccTracks := by
  cases hf : s.fsm
  case gotM =>
    cases (rxApply_gotM b hf).symm.trans hb
    split
    · exact rfl
    · split <;> trivial
  case gotX =>
    cases (rxApply_gotX b hf).symm.trans hb
    split
    · exact rfl
    · trivial
  case v1Payload =>
    have hidx := hinv.rxIdx_lt_bufLen (.inl hf)
    cases (rxApply_v1Payload b hf hidx).symm.trans hb
    simp only [State.AccTracks, hf] at h
    refine accTracks_of_v1 rfl ?_
    show s.acc ^^^ b = v1Sum s.rxLen s.rxCodeSh (rxPayload (storePayload b s) (s.rxIdx + 1).toNat)
    rw [rxIdx_succ_toNat hidx, rxPayload_storePayload, v1Sum_append, ← h]
  case v2Payload =>
    have hidx := hinv.rxIdx_lt_bufLen (.inr hf)
    cases (rxApply_v2Payload b hf hidx).symm.trans hb
    simp only [State.AccTracks, hf] at h
    refine accTracks_of_v2 rfl ?_
    show crc8Step s.acc b = v2Sum s.rxFlagSh s.rxCodeSh s.rxLen (rxPayload (storePayload b s) (s.rxIdx + 1).toNat)
    rw [rxIdx_succ_toNat hidx, rxPayload_storePayload, v2Sum_append, ← h]
  all_goals
    simp only [rxApply, hf] at hb
    cases hb
    simp only [State.AccTracks, hf] at h
  case idle | sending => simp only [State.AccTracks, hf]
  case scan => unfold rxScan; split <;> trivial
  case gotDollar => unfold rxGotDollar; split_ifs <;> trivial
  case hdrSkip => trivial
  case v1Size => simp [State.AccTracks, rxV1Size, h]
  case v1Code => exact rxV1Code_tracks b h
  case v1Check => unfold rxV1Check; split <;> trivial
  case v2Flag =>
    simp only [State.AccTracks, rxV2Flag, h]
    rfl
  case v2CodeLo =>
    simp only [State.AccTracks, rxV2CodeLo, h, lo8_word16]
    rfl
  case v2CodeHi =>
    simp only [State.AccTracks, rxV2CodeHi, h, lo8_word16, hi8_word16]
    rfl
  case v2SizeLo =>
    simp only [State.AccTracks, rxV2SizeLo, h, lo8_word16]
    rfl
  case v2SizeHi => exact rxV2SizeHi_tracks b h
  case v2Crc => unfold rxV2Crc; split <;> trivial

theorem writeReg_tracks {s : State} (h : s.AccTracks) (r : Reg) (v : Word) : (writeReg r v s).AccTracks := by
  cases r <;> exact (KeepsDecode.refl s).tracks h

/-- RX_BUF lies beyond TX_BUF, so a write of TX_BUF keeps it (R51). -/
theorem memWrite_tracks {s : State} (h : s.AccTracks) {a : Nat} (v : Word) {n : Nat} (hhi : a + n ≤ txBase + bufLen) :
    (memWrite s a v n).AccTracks := by
  have hbytes (o : Nat) : readByte (memWrite s a v n) (rxBase + o) = readByte s (rxBase + o) :=
    readByte_memWrite_outside s a v n _ (by simp only [txBase, bufLen, rxBase] at *; omega)
  rw [memWrite_eq] at hbytes ⊢
  exact KeepsDecode.tracks (s := s) ⟨rfl, rfl, rfl, rfl, rfl, rfl, hbytes⟩ h

theorem rxByteEvent_tracks {s : State} (h : s.AccTracks) (b : Byte) : (rxByteEvent b s).AccTracks := by
  rcases rxByteEvent_cases b s with ⟨-, e⟩ | e <;> rw [e]
  · exact (KeepsDecode.refl s).tracks h
  · exact (KeepsDecode.refl s).tracks h

theorem txAcceptEvent_tracks {s : State} (h : s.AccTracks) : (txAcceptEvent s).AccTracks := by
  rcases txAcceptEvent_cases s with ⟨r, -, e⟩ | ⟨-, e⟩ | ⟨-, e⟩ <;> rw [e]
  · trivial
  · trivial
  · exact (KeepsDecode.refl s).tracks h

theorem tickEvent_tracks {s : State} (h : s.AccTracks) : (tickEvent s).AccTracks := by
  rcases tickEvent_cases s with ⟨-, e⟩ | ⟨v, e⟩ <;> rw [e]
  · trivial
  · exact (KeepsDecode.refl s).tracks h

theorem perform_tracks {e : Event} {s t : State} (hinv : s.Inv) (h : s.AccTracks) (hp : perform e s = .next t) :
    t.AccTracks := by
  have hbus : State.AccTracks { s with bus := some .writeOkay } := (KeepsDecode.refl s).tracks h
  rcases perform_cases hp with ⟨-, a, rfl⟩ | ⟨off, n, v, r, -, -, -, -, rfl⟩ | ⟨off, n, v, -, -, hhi, -, rfl⟩ |
    ⟨w, -, ⟨i, -, hx⟩ | ⟨c, -, rfl⟩⟩ | ⟨b, -, rfl⟩ | ⟨-, ⟨-, rfl⟩ | ⟨b, q, hq, hx⟩⟩ | ⟨-, rfl⟩ | ⟨-, rfl⟩ | ⟨-, rfl⟩ |
    ⟨-, rfl⟩
  · exact (KeepsDecode.refl s).tracks h
  · exact writeReg_tracks hbus r v
  · exact memWrite_tracks hbus v hhi
  · exact exec_tracks hbus hx
  · exact (KeepsDecode.refl s).tracks h
  · exact rxByteEvent_tracks h b
  · exact h
  · exact rxApply_tracks (s := { s with rxfifo := q }) (hinv.tail hq) ((KeepsDecode.refl s).tracks h) hx
  · exact txAcceptEvent_tracks h
  · trivial
  · exact tickEvent_tracks h
  · trivial

/-- Settles O33: outside the decode states there is nothing to track, an RxStep folds its byte in (`rxApply_tracks`),
and the other events keep the decode (`KeepsDecode.tracks`). -/
theorem runningIntegrityIsKept : Obligations.RunningIntegrityIsKept := by
  intro s t hinv h hstep
  obtain ⟨q, n, ⟨-, rfl⟩ | ⟨-, hp⟩⟩ := step_next hstep
  · exact (KeepsDecode.refl s).tracks h
  · exact perform_tracks (s := { s with sched := q, envIdx := n }) { hinv with } ((KeepsDecode.refl s).tracks h) hp

end Sys2Proof.Machine
end

section
/-! PROOFS. What a host can tell apart (20_memory.md R58, 42_receive.md R172): the bytes of RX_BUF beyond those held
influence no step. Every operation does the same with another buffers' memory (`…_withMem`), reads only TX_BUF and held
bytes of it, and holds no further byte without storing it. -/

namespace Sys2Proof.Machine

/-- `s` with this memory of the buffers. -/
def State.withMem (s : State) (m : Memory) : State := { s with mem := m }

/-- Every byte of TX_BUF is the same in `s` with the memory `m`. -/
def SameTxBuf (s : State) (m : Memory) : Prop :=
  ∀ o, o < bufLen → readByte (s.withMem m) (txBase + o) = readByte s (txBase + o)

theorem SameToHost.eq_withMem {s t : State} (h : SameToHost s t) : t = s.withMem t.mem := h.rest

/-! ## The operations with another memory -/

theorem build_withMem {s : State} {m : Memory} (h : SameTxBuf s m) (fam : Family) :
    build fam (s.withMem m) = build fam s :=
  build_congr fam rfl rfl fun i hi hlen => h i (Nat.lt_of_lt_of_le hi hlen)

theorem startSend_withMem {s : State} {m : Memory} (h : SameTxBuf s m) (kind : LongOp) (fam : Family) :
    startSend kind fam (s.withMem m) = (startSend kind fam s).withMem m := by
  simp only [startSend, build_withMem h]
  split <;> rfl

theorem whenIdle_withMem {run : State → State} {s : State} {m : Memory}
    (hrun : run (s.withMem m) = (run s).withMem m) : whenIdle run (s.withMem m) = (whenIdle run s).withMem m := by
  rcases whenIdle_cases run s with ⟨hidle, e⟩ | ⟨hbusy, e⟩
  · rw [e, ← hrun]; exact if_pos hidle
  · rw [e]; exact if_neg hbusy

theorem atHeader_withMem {f : Fsm} {run : State → State} {s : State} {m : Memory}
    (hrun : run (s.withMem m) = (run s).withMem m) : atHeader f run (s.withMem m) = (atHeader f run s).withMem m := by
  rcases atHeader_cases f run s with ⟨hhere, e⟩ | ⟨helse, e⟩
  · rw [e, ← hrun]; exact if_pos hhere
  · rw [e]; exact if_neg helse

theorem exec_withMem {i : Instr} {s t : State} {m : Memory} (hm : SameTxBuf s m) (h : exec i s = .next t) :
    exec i (s.withMem m) = .next (t.withMem m) := by
  cases i with
  | nop | crcClr | crcByte | xorClr | xorByte => cases h; rfl
  | send | transact | negotiate =>
    cases h
    refine congrArg Host.Outcome.next (whenIdle_withMem ?_)
    exact startSend_withMem (s := opBegin s) hm _ _
  | receive | flushRx => cases h; exact congrArg _ (whenIdle_withMem rfl)
  | abort =>
    cases h
    simp only [apply_ite (State.withMem · m)]
    rfl
  | hdrV1Request | hdrV2Request | hdrV1Response | hdrV1Error | hdrV2Response =>
    cases h; exact congrArg _ (atHeader_withMem rfl)

/-- A rule that stores nothing does the same with any memory. -/
theorem rxApply_withMem {b : Byte} {s t : State} (hv1 : s.fsm ≠ .v1Payload) (hv2 : s.fsm ≠ .v2Payload)
    (h : rxApply b s = .next t) (m : Memory) : rxApply b (s.withMem m) = .next (t.withMem m) := by
  cases hf : s.fsm
  case v1Payload => exact absurd hf hv1
  case v2Payload => exact absurd hf hv2
  case gotM =>
    cases (rxApply_gotM b hf).symm.trans h
    rw [rxApply_gotM b (s := s.withMem m) hf]
    simp only [apply_ite (State.withMem · m)]
    rfl
  case gotX =>
    cases (rxApply_gotX b hf).symm.trans h
    rw [rxApply_gotX b (s := s.withMem m) hf]
    simp only [apply_ite (State.withMem · m)]
    rfl
  all_goals
    have hf' : (s.withMem m).fsm = s.fsm := rfl
    simp only [rxApply, hf', hf] at h ⊢
    cases h
  case v1Check => simp only [rxV1Check, apply_ite (State.withMem · m)]; rfl
  case v2Crc => simp only [rxV2Crc, apply_ite (State.withMem · m)]; rfl
  all_goals rfl

theorem writeReg_withMem (r : Reg) (v : Word) (s : State) (m : Memory) :
    writeReg r v (s.withMem m) = (writeReg r v s).withMem m := by
  cases r <;> rfl

theorem txAcceptEvent_withMem (s : State) (m : Memory) :
    txAcceptEvent (s.withMem m) = (txAcceptEvent s).withMem m := by
  have hop : (s.withMem m).op = s.op := rfl
  unfold txAcceptEvent
  rw [hop]
  split <;> rfl

theorem tickEvent_withMem (s : State) (m : Memory) : tickEvent (s.withMem m) = (tickEvent s).withMem m := by
  simp only [tickEvent, apply_ite (State.withMem · m)]
  rfl

theorem rxByteEvent_withMem (b : Byte) (s : State) (m : Memory) :
    rxByteEvent b (s.withMem m) = (rxByteEvent b s).withMem m := by
  simp only [rxByteEvent, apply_ite (State.withMem · m)]
  rfl

/-! ## The bytes held

No event but the store of a payload byte lets a host see further into RX_BUF. -/

/-- Outside the receive states the held bytes are those of a valid frame. -/
theorem rxHeld_of_not_rx {s : State} (hs : ¬s.fsm.isRx = true) :
    rxHeld s = if s.rxValid then s.rxSize.toNat else 0 := by
  unfold rxHeld
  cases hf : s.fsm
  case idle | sending => rfl
  all_goals exact absurd (by rw [hf]; rfl) hs

/-- In a receive phase without a payload byte yet nothing is held. -/
theorem rxHeld_eq_zero {t : State} (hnone : NoPayloadYet t.fsm t.rxLen t.rxIdx) (hvalid : t.rxValid = false) :
    rxHeld t = 0 := by
  obtain ⟨hidx, hlen⟩ := hnone
  unfold rxHeld
  split
  · next hf => simp [hidx (.inl hf)]
  · next hf => simp [hidx (.inr hf)]
  · next hf => simp [hlen (.inl hf)]
  · next hf => simp [hlen (.inr hf)]
  all_goals simp [hvalid]

theorem decode_rxHeld {s : State} (hvalid : s.rxValid = false) {f : Fsm} {acc flag : Byte} {len code : BitVec 16}
    {idx : BitVec 17} (hnone : NoPayloadYet f len idx) :
    rxHeld { s with fsm := f, acc := acc, rxLen := len, rxCodeSh := code, rxFlagSh := flag, rxIdx := idx }
      ≤ rxHeld s := by
  refine Nat.le_trans (Nat.le_of_eq (rxHeld_eq_zero ?_ ?_)) (Nat.zero_le _)
  · exact hnone
  · exact hvalid

/-- The end of an operation hides a partial frame and keeps a valid one (R172). -/
theorem finish_rxHeld {s : State} (h : s.Inv) (r : Result) : rxHeld (finish r s) ≤ rxHeld s := by
  have hend : rxHeld (finish r s) = if s.rxValid then s.rxSize.toNat else 0 := rfl
  by_cases hrx : s.fsm.isRx = true
  · simp [hend, h.rxPhase hrx]
  · rw [hend, rxHeld_of_not_rx hrx]

theorem startSend_rxHeld {s : State} (h : s.Inv) (hs : s.fsm = .idle) (kind : LongOp) (fam : Family) :
    rxHeld (startSend kind fam s) ≤ rxHeld s := by
  rcases startSend_cases kind fam s with ⟨r, -, e⟩ | ⟨f, -, e⟩ <;> rw [e]
  · exact finish_rxHeld h r
  · rw [rxHeld_of_not_rx (s := s) (by rw [hs]; decide)]
    exact Nat.le_refl _

theorem exec_rxHeld {i : Instr} {s t : State} (h : s.Inv) (hx : exec i s = .next t) : rxHeld t ≤ rxHeld s := by
  rcases exec_cases hx with rfl | rfl | ⟨-, rfl⟩ | ⟨d, -, rfl⟩ | ⟨-, rfl⟩ | ⟨d, -, rfl⟩ | ⟨hs, kind, fam, -, rfl⟩ |
    ⟨-, -, rfl⟩ | ⟨-, -, rfl⟩ | ⟨-, -, rfl⟩ | ⟨hs, -, ht⟩
  · exact Nat.le_refl _
  · exact Nat.le_refl _
  · exact Nat.le_refl _
  · exact Nat.le_refl _
  · exact Nat.le_refl _
  · exact Nat.le_refl _
  · exact startSend_rxHeld (s := opBegin s) { h with running := fun _ => ⟨rfl, rfl⟩ } hs kind fam
  · exact Nat.zero_le _
  · exact finish_rxHeld h .aborted
  · exact Nat.le_refl _
  · have hvalid : s.rxValid = false := h.rxPhase (by rcases hs with e | e <;> rw [e] <;> rfl)
    rcases ht with rfl | rfl | rfl | rfl
    · exact decode_rxHeld hvalid (by simp [NoPayloadYet])
    · exact decode_rxHeld hvalid (by simp [NoPayloadYet])
    · exact decode_rxHeld hvalid (by simp [NoPayloadYet])
    · exact finish_rxHeld h .rejected

theorem rxApply_rxHeld {b : Byte} {s t : State} (h : s.Inv) (hv1 : s.fsm ≠ .v1Payload) (hv2 : s.fsm ≠ .v2Payload)
    (hb : rxApply b s = .next t) : rxHeld t ≤ rxHeld s := by
  cases rxApply_effect hb with
  | ignored => exact Nat.le_refl _
  | decodes hs _ hnone => exact decode_rxHeld (h.rxPhase hs) hnone
  | stores hs => exact absurd hs (not_or.mpr ⟨hv1, hv2⟩)
  | fails => exact finish_rxHeld h _
  | publishesV1 hs => simp [rxHeld, hs]
  | publishesV2 hs => simp [rxHeld, hs]

theorem txAcceptEvent_rxHeld {s : State} (h : s.Inv) : rxHeld (txAcceptEvent s) ≤ rxHeld s := by
  rcases txAcceptEvent_cases s with ⟨r, -, e⟩ | ⟨-, e⟩ | ⟨-, e⟩ <;> rw [e]
  · exact finish_rxHeld (s := { s with wireTx := s.wireTx ++ [s.txFrame] }) { h with } r
  · exact Nat.zero_le _
  · exact Nat.le_refl _

theorem tickEvent_rxHeld {s : State} (h : s.Inv) : rxHeld (tickEvent s) ≤ rxHeld s := by
  rcases tickEvent_cases s with ⟨-, e⟩ | ⟨v, e⟩ <;> rw [e]
  · exact finish_rxHeld (s := { s with timer := 0 }) { h with } .timeout
  · exact Nat.le_refl _

theorem rxByteEvent_rxHeld (b : Byte) (s : State) : rxHeld (rxByteEvent b s) = rxHeld s := by
  rcases rxByteEvent_cases b s with ⟨-, e⟩ | e <;> rw [e] <;> rfl

theorem writeReg_rxHeld (r : Reg) (v : Word) (s : State) : rxHeld (writeReg r v s) = rxHeld s := by
  cases r <;> rfl

theorem memWrite_rxHeld (s : State) (a : Nat) (v : Word) (n : Nat) : rxHeld (memWrite s a v n) = rxHeld s := by
  rw [memWrite_eq]; rfl

/-! ## What a read tells -/

theorem memRead_congr {s t : State} {a n : Nat} (h : ∀ i, i < n → readByte t (a + i) = readByte s (a + i)) :
    memRead t a n = memRead s a n := by
  induction n with
  | zero => rfl
  | succ n ih => rw [memRead, memRead, ih fun i hi => h i (by omega), h n (by omega)]

theorem txBase_le_of_locate {off n : Nat} (h : locate off n = .ok .txb) : txBase ≤ off := by
  unfold locate regionAt at h
  grind [txBase]

theorem rxBase_le_of_locate {off n : Nat} (h : locate off n = .ok .rxb) : rxBase ≤ off := by
  unfold locate regionAt at h
  grind [rxBase]

/-- Every access reads the same: a register, TX_BUF, or the bytes of a valid frame, which are held (R56, R58). -/
theorem readWindow_withMem {s : State} {m : Memory} (hinv : s.Inv) (h : SameToHost s (s.withMem m)) (off n : Nat) :
    readWindow (s.withMem m) off n = readWindow s off n := by
  cases hl : locate off n with
  | error c => simp only [readWindow, hl]
  | ok region =>
    cases region with
    | reg =>
      have hreg (r : Reg) : readReg r (s.withMem m) = readReg r s := by cases r <;> rfl
      simp only [readWindow, hl, hreg]
    | txb =>
      have hlo := txBase_le_of_locate hl
      simp only [readWindow, hl]
      split
      · rfl
      · rw [memRead_congr fun i hi => ?_]
        have hbyte := h.txBuf (off - txBase + i) (by omega)
        rwa [show txBase + (off - txBase + i) = off + i by omega] at hbyte
    | rxb =>
      have hlo := rxBase_le_of_locate hl
      have hvalid : (s.withMem m).rxValid = s.rxValid := rfl
      have hsize : (s.withMem m).rxSize = s.rxSize := rfl
      simp only [readWindow, hl, hvalid, hsize]
      split
      · rfl
      · split
        · rfl
        · next hok =>
          have hrx : ¬s.fsm.isRx = true := fun hrx => hok (.inl (hinv.rxPhase hrx))
          have hheld : rxHeld s = s.rxSize.toNat :=
            (rxHeld_of_not_rx hrx).trans (if_pos (Bool.eq_true_of_not_eq_false fun hv => hok (.inl hv)))
          rw [memRead_congr fun i hi => ?_]
          have hbyte := h.rxBuf (off - rxBase + i) (by omega)
          rwa [show rxBase + (off - rxBase + i) = off + i by omega] at hbyte

theorem readAnswer_withMem {s : State} {m : Memory} (hinv : s.Inv) (h : SameToHost s (s.withMem m)) (off n : Nat) :
    readAnswer (s.withMem m) off n = readAnswer s off n := by
  simp only [readAnswer, readWindow_withMem hinv h]

/-! ## One event -/

/-- An event that stores nothing and lets a host see no further keeps the two states alike. -/
theorem SameToHost.keep {s s' : State} {m : Memory} (h : SameToHost s (s.withMem m)) (hk : KeepsBuffers s s')
    (hheld : rxHeld s' ≤ rxHeld s) : SameToHost s' (s'.withMem m) := by
  obtain ⟨hmem, hdraw⟩ := hk
  have hnew (a : Nat) : readByte (s'.withMem m) a = readByte (s.withMem m) a :=
    readByte_congr (s := s.withMem m) (t := s'.withMem m) rfl hdraw a
  have hold (a : Nat) : readByte s' a = readByte s a := readByte_congr hmem hdraw a
  exact {
    rest := rfl
    txBuf := fun o ho => by rw [hnew, hold]; exact h.txBuf o ho
    rxBuf := fun o ho => by rw [hnew, hold]; exact h.rxBuf o (Nat.lt_of_lt_of_le ho hheld) }

/-- A wide write stores the same bytes and leaves the others as they are. -/
theorem readByte_memWrite_congr {s t : State} {a : Nat} (h : readByte t a = readByte s a) (b : Nat) (v : Word)
    (n : Nat) : readByte (memWrite t b v n) a = readByte (memWrite s b v n) a := by
  by_cases hin : b ≤ a ∧ a < b + n
  · obtain ⟨i, rfl⟩ := Nat.exists_eq_add_of_le hin.1
    rw [readByte_memWrite_inside t b v n i (by omega), readByte_memWrite_inside s b v n i (by omega)]
  · rw [readByte_memWrite_outside t b v n a (by omega), readByte_memWrite_outside s b v n a (by omega), h]

theorem memWrite_sameToHost {s t : State} (h : SameToHost s t) (a : Nat) (v : Word) (n : Nat) :
    SameToHost (memWrite s a v n) (memWrite t a v n) := by
  refine ⟨?_, fun o ho => readByte_memWrite_congr (h.txBuf o ho) a v n,
    fun o ho => readByte_memWrite_congr (h.rxBuf o ?_) a v n⟩
  · calc memWrite t a v n
        = t.withMem (memWrite t a v n).mem := memWrite_eq t a v n
      _ = (s.withMem t.mem).withMem (memWrite t a v n).mem :=
          congrArg (State.withMem · (memWrite t a v n).mem) h.eq_withMem
      _ = (s.withMem (memWrite s a v n).mem).withMem (memWrite t a v n).mem := rfl
      _ = (memWrite s a v n).withMem (memWrite t a v n).mem :=
          congrArg (State.withMem · (memWrite t a v n).mem) (memWrite_eq s a v n).symm
  · rwa [memWrite_rxHeld] at ho

/-- The outcome is a state that a host cannot tell from `s'`. -/
def SameOut (s' : State) (out : Out) : Prop := ∃ t', out = .next t' ∧ SameToHost s' t'

theorem exec_sameOut {i : Instr} {s s' : State} {m : Memory} (hinv : s.Inv) (h : SameToHost s (s.withMem m))
    (hx : exec i s = .next s') : SameOut s' (exec i (s.withMem m)) :=
  ⟨_, exec_withMem h.txBuf hx, h.keep (exec_keepsBuffers hx) (exec_rxHeld hinv hx)⟩

/-- A stored payload byte is held, in the payload state as behind the last one. -/
theorem storePayload_rxHeld {s : State} (hidx : s.rxIdx.toNat < bufLen) {here done : Fsm}
    (hp : (here = .v1Payload ∧ done = .v1Check) ∨ (here = .v2Payload ∧ done = .v2Crc)) (b acc : Byte) :
    rxHeld { storePayload b s with
      acc := acc, fsm := if (s.rxIdx + 1).toNat = s.rxLen.toNat then done else here } = s.rxIdx.toNat + 1 := by
  rw [← rxIdx_succ_toNat hidx]
  rcases hp with ⟨rfl, rfl⟩ | ⟨rfl, rfl⟩
  all_goals
    split
    · next hend => exact hend.symm
    · rfl

/-- The same payload byte is stored in both states. -/
theorem storePayload_sameOut {here done : Fsm} {fold : Byte → Byte → Byte} (hrule : StoresPayload here done fold)
    (hp : (here = .v1Payload ∧ done = .v1Check) ∨ (here = .v2Payload ∧ done = .v2Crc)) {b : Byte} {s s' : State}
    {m : Memory} (hs : s.fsm = here) (hidx : s.rxIdx.toNat < bufLen) (h : SameToHost s (s.withMem m))
    (hx : rxApply b s = .next s') : SameOut s' (rxApply b (s.withMem m)) := by
  have hheld : rxHeld s = s.rxIdx.toNat := by
    rcases hp with ⟨rfl, -⟩ | ⟨rfl, -⟩ <;> simp only [rxHeld, hs]
  cases (hrule.2 b s hs hidx).symm.trans hx
  refine ⟨_, hrule.2 b (s.withMem m) hs hidx, rfl, fun o ho => ?_, fun o ho => ?_⟩
  · have hne : txBase + o ≠ rxBase + s.rxIdx.toNat := by
      simp only [txBase, rxBase, bufLen] at ho ⊢
      omega
    exact (readByte_storePayload_other b (s.withMem m) hne).trans
      ((h.txBuf o ho).trans (readByte_storePayload_other b s hne).symm)
  · rw [storePayload_rxHeld hidx hp] at ho
    by_cases hlast : o = s.rxIdx.toNat
    · subst hlast
      exact (readByte_storePayload_same b (s.withMem m)).trans (readByte_storePayload_same b s).symm
    · have hne : rxBase + o ≠ rxBase + s.rxIdx.toNat := by omega
      exact (readByte_storePayload_other b (s.withMem m) hne).trans
        ((h.rxBuf o (by omega)).trans (readByte_storePayload_other b s hne).symm)

theorem issueCommand_sameOut {w : Word} {s s' : State} {m : Memory} (hinv : s.Inv) (h : SameToHost s (s.withMem m))
    (hx : issueCommand w s = .next s') : SameOut s' (issueCommand w (s.withMem m)) := by
  cases hw : decodeCmd w with
  | ok i =>
    simp only [issueCommand, hw] at hx ⊢
    exact exec_sameOut hinv h hx
  | error c =>
    simp only [issueCommand, hw] at hx ⊢
    cases hx
    exact ⟨_, rfl, h.keep ⟨rfl, rfl⟩ (Nat.le_refl _)⟩

theorem writeTarget_sameOut {tg : Target} {n : Nat} {v : Word} {s s' : State} {m : Memory} (hinv : s.Inv)
    (h : SameToHost s (s.withMem m)) (hx : writeTarget tg n v s = .next s') :
    SameOut s' (writeTarget tg n v (s.withMem m)) := by
  cases tg with
  | txb a =>
    cases hx
    exact ⟨_, rfl, memWrite_sameToHost h a v n⟩
  | reg r =>
    by_cases hr : r = .cmd
    · subst hr
      exact issueCommand_sameOut hinv h hx
    · rw [writeTarget_reg hr] at hx ⊢
      cases hx
      exact ⟨_, congrArg _ (writeReg_withMem r v s m),
        h.keep (writeReg_keepsBuffers r v s) (Nat.le_of_eq (writeReg_rxHeld r v s))⟩

theorem hostWrite_sameOut {off : Word} {n : AccessSize} {v : Word} {s s' : State} {m : Memory} (hinv : s.Inv)
    (h : SameToHost s (s.withMem m)) (hx : hostWrite off n v s = .next s') :
    SameOut s' (hostWrite off n v (s.withMem m)) := by
  have hcheck := checkWrite_congr (s := s) (t := s.withMem m) rfl off.toNat n.bytes
  have hbus (answer : BusAnswer) :
      SameToHost { s with bus := some answer } (State.withMem { s with bus := some answer } m) :=
    h.keep ⟨rfl, rfl⟩ (Nat.le_refl _)
  cases hc : checkWrite s off.toNat n.bytes with
  | error c =>
    rw [hostWrite_of_error hc] at hx
    rw [hostWrite_of_error (hcheck.trans hc)]
    cases hx
    exact ⟨_, rfl, hbus _⟩
  | ok tg =>
    rw [hostWrite_of_ok hc] at hx
    rw [hostWrite_of_ok (hcheck.trans hc)]
    exact writeTarget_sameOut (s := { s with bus := some .writeOkay }) { hinv with } (hbus _) hx

theorem rxApply_sameOut {b : Byte} {s s' : State} {m : Memory} (hinv : s.Inv) (h : SameToHost s (s.withMem m))
    (hx : rxApply b s = .next s') : SameOut s' (rxApply b (s.withMem m)) := by
  by_cases hv1 : s.fsm = .v1Payload
  · exact storePayload_sameOut storesPayload_v1 (.inl ⟨rfl, rfl⟩) hv1 (hinv.rxIdx_lt_bufLen (.inl hv1)) h hx
  by_cases hv2 : s.fsm = .v2Payload
  · exact storePayload_sameOut storesPayload_v2 (.inr ⟨rfl, rfl⟩) hv2 (hinv.rxIdx_lt_bufLen (.inr hv2)) h hx
  have hkeep : KeepsBuffers s s' := (rxApply_buffers hx).resolve_right fun hstore => not_or.mpr ⟨hv1, hv2⟩ hstore.1
  exact ⟨_, rxApply_withMem hv1 hv2 hx m, h.keep hkeep (rxApply_rxHeld hinv hv1 hv2 hx)⟩

theorem perform_sameOut {e : Event} {s s' : State} {m : Memory} (hinv : s.Inv) (h : SameToHost s (s.withMem m))
    (hx : perform e s = .next s') : SameOut s' (perform e (s.withMem m)) := by
  cases e with
  | hostRead off n =>
    cases hx
    refine ⟨_, ?_, h.keep ⟨rfl, rfl⟩ (Nat.le_refl _)⟩
    simp only [perform, hostRead, readAnswer_withMem hinv h]
    rfl
  | hostWrite off n v => exact hostWrite_sameOut hinv h hx
  | rxByte b =>
    cases hx
    exact ⟨_, congrArg Host.Outcome.next (rxByteEvent_withMem b s m),
      h.keep (rxByteEvent_keepsBuffers b s) (Nat.le_of_eq (rxByteEvent_rxHeld b s))⟩
  | rxStep =>
    have hfifo : (s.withMem m).rxfifo = s.rxfifo := rfl
    cases hq : s.rxfifo with
    | nil =>
      simp only [perform, rxStepEvent, hfifo, hq] at hx ⊢
      cases hx
      exact ⟨_, rfl, h⟩
    | cons b q =>
      simp only [perform, rxStepEvent, hfifo, hq] at hx ⊢
      exact rxApply_sameOut (s := { s with rxfifo := q }) (hinv.tail hq) (h.keep ⟨rfl, rfl⟩ (Nat.le_refl _)) hx
  | txAccept =>
    cases hx
    exact ⟨_, congrArg Host.Outcome.next (txAcceptEvent_withMem s m),
      h.keep (txAcceptEvent_keepsBuffers s) (txAcceptEvent_rxHeld hinv)⟩
  | txFail =>
    cases hx
    exact ⟨_, rfl, h.keep ⟨rfl, rfl⟩ (finish_rxHeld hinv _)⟩
  | tick =>
    cases hx
    exact ⟨_, congrArg Host.Outcome.next (tickEvent_withMem s m),
      h.keep (tickEvent_keepsBuffers s) (tickEvent_rxHeld hinv)⟩
  | reset =>
    cases hx
    exact ⟨resetEvent s, rfl, rfl, fun _ _ => rfl, fun _ _ => rfl⟩

/-! ## One step -/

theorem enabled_withMem (e : Event) (s : State) (m : Memory) : enabled e (s.withMem m) = enabled e s := by
  cases e <;> rfl

theorem nextEvent_withMem (s : State) (m : Memory) :
    nextEvent (s.withMem m) = ((nextEvent s).1, (nextEvent s).2.withMem m) := by
  have hsched : (s.withMem m).sched = s.sched := rfl
  unfold nextEvent
  rw [hsched]
  split <;> rfl

theorem runEvent_sameOut {e : Event} {s s' : State} {m : Memory} (hinv : s.Inv) (h : SameToHost s (s.withMem m))
    (hx : runEvent e s = .next s') : SameOut s' (runEvent e (s.withMem m)) := by
  simp only [runEvent, enabled_withMem] at hx ⊢
  split at hx
  · next hen => rw [if_pos hen]; exact perform_sameOut hinv h hx
  · next hen => rw [if_neg hen]; cases hx; exact ⟨_, rfl, h⟩

theorem step_sameOut {s s' : State} {m : Memory} (hinv : s.Inv) (h : SameToHost s (s.withMem m))
    (hx : step s = .next s') : SameOut s' (step (s.withMem m)) := by
  obtain ⟨q, n, hu⟩ := nextEvent_state s
  rw [step, nextEvent_withMem]
  rw [step] at hx
  rw [hu] at hx ⊢
  exact runEvent_sameOut (s := { s with sched := q, envIdx := n }) { hinv with }
    (h.keep ⟨rfl, rfl⟩ (Nat.le_refl _)) hx

/-- Settles O52: hidden bytes influence no step (`step_sameOut`); in a receive phase no frame is valid, so the validity
check answers every aligned read inside RX_BUF. -/
theorem hiddenBytesStayHidden : Obligations.HiddenBytesStayHidden := by
  refine ⟨fun s t s' hinv h hstep => ?_, fun s off n hinv hrx hlo hhi halign => ?_⟩
  · have ht := h.eq_withMem
    rw [ht] at h ⊢
    obtain ⟨t', hout, hsame⟩ := step_sameOut hinv h hstep
    have hbus := congrArg State.bus hsame.rest
    have hwire := congrArg State.wireTx hsame.rest
    have hirq := congrArg irq hsame.rest
    exact ⟨t', hout, hsame, hbus, hwire, hirq⟩
  · have hpos := n.bytes_pos
    have hwindow : readWindow s off.toNat n.bytes = .error .notValid := by
      rw [(answers_in_rxb s hlo (by omega) halign).1, if_neg (by omega), if_pos (.inl (hinv.rxPhase hrx))]
    rw [step_hostRead, facing_nil, hostRead, readAnswer_of_error hwindow]

end Sys2Proof.Machine
end
